-- ==== Sys2Proof/Word.lean ====
section
/-! DEFINITION. The widths of the part's words and the ranges of its numbers (spec/00_scope.md §4, spec/12_formats_reference.md). -/

namespace Sys2Proof

/-- A byte of a line channel or of a highway slot (R71, R136). -/
abbrev Byte := BitVec 8

/-- A word of the register window (R187). -/
abbrev Word := BitVec 16

/-- Line port P0..P3. -/
abbrev PortNo := Fin 4

/-- Channel number 0..31 of a port (R114). -/
abbrev ChanNo := Fin 32

/-- Lease 0 to lease 127 (R2). -/
abbrev LeaseNo := Fin 128

/-- Slot 0 to slot 127 (R30). -/
abbrev SlotNo := Fin 128

/-- Group G0 to G31. -/
abbrev GroupNo := Fin 32

/-- Class 0 to class 3, 3 the highest. -/
abbrev ClassNo := Fin 4

/-- Four-bit tag chosen by line equipment (R73). -/
abbrev TagNo := Fin 16

/-- Bit time 0..1023 of a frame (R129, 07 §7.1). -/
abbrev BitTime := Fin 1024

/-- A table of `n` entries from a rule for each entry. -/
def tab {α : Type} (n : Nat) (f : Fin n → α) : Vector α n :=
  ⟨⟨(List.finRange n).map f⟩, by simp⟩

/-- The table with entry `i` replaced. -/
def upd {α : Type} {n : Nat} (v : Vector α n) (i : Fin n) (x : α) : Vector α n := v.set i x

end Sys2Proof
end

