-- ==== Sys2Proof/Syntax.lean ====
section
/-! DEFINITION. The commands of the block: one constructor per row of spec/opcode_table.json, in the table's order.
A host command reads its arguments from ARG0..ARG3, so it has no operand but its form. -/

namespace Sys2Proof

/-- The part of a host command that is taken (R169, R170; log 5): `write` is the write of CMD alone, which latches the
arguments and sets BUSY; `take` is the taking of the outstanding command by its owning block, with its completion;
`whole` is the write and the taking with nothing between them. -/
inductive Phase where
  | whole
  | write
  | take
  deriving DecidableEq, Repr

/-- One constructor per row of spec/opcode_table.json. -/
inductive Instr where
  /-- LEASE_READ (R23). -/
  | leaseRead (ph : Phase)
  /-- LEASE_FIND (R14). -/
  | leaseFind (ph : Phase)
  /-- LEASE_CREATE (R24, R25). -/
  | leaseCreate (ph : Phase)
  /-- LEASE_MODIFY (R26). -/
  | leaseModify (ph : Phase)
  /-- LEASE_RETIRE (R27). -/
  | leaseRetire (ph : Phase)
  /-- NOTICE_TAKE (R159). -/
  | noticeTake (ph : Phase)
  /-- SLOT_READ (R37). -/
  | slotRead (ph : Phase)
  /-- SLOT_RESERVE (R38). -/
  | slotReserve (ph : Phase)
  /-- SLOT_RELEASE (R39). -/
  | slotRelease (ph : Phase)
  /-- LEASE_MOVE (R41, R42). -/
  | leaseMove (ph : Phase)
  /-- POOL_READ (R44). -/
  | poolRead (ph : Phase)
  /-- POOL_SET (R45). -/
  | poolSet (ph : Phase)
  /-- MONITOR_SET (R48). -/
  | monitorSet (ph : Phase)
  /-- MONITOR_CLEAR (R49). -/
  | monitorClear (ph : Phase)
  /-- GROUP_READ (R66). -/
  | groupRead (ph : Phase)
  /-- GROUP_WRITE (R67). -/
  | groupWrite (ph : Phase)
  /-- LISTENER_READ (R69). -/
  | listenerRead (ph : Phase)
  /-- PORT_READ (R127). -/
  | portRead (ph : Phase)
  /-- PORT_SET (R126). -/
  | portSet (ph : Phase)
  /-- METER_READ (R108). -/
  | meterRead (ph : Phase)
  /-- METER_SET (R107). -/
  | meterSet (ph : Phase)
  /-- COUNTERS_READ (R167). -/
  | countersRead (ph : Phase)
  /-- HIGHWAY_READ (R142). -/
  | highwayRead (ph : Phase)
  /-- HIGHWAY_SET (R141). -/
  | highwaySet (ph : Phase)
  /-- SWEEP_READ (R154). -/
  | sweepRead (ph : Phase)
  /-- SWEEP_SET (R153). -/
  | sweepSet (ph : Phase)
  /-- REFUSAL_READ (R166). -/
  | refusalRead (ph : Phase)
  /-- RETIRE_SCOPE (R175): `take` is the walk start. -/
  | retireScope (ph : Phase)
  /-- WALK_VISIT (R177): the LSV takes the walk's visit request. -/
  | walkVisit
  /-- ABORT (R169, R180): the taking of the ABORT in progress; with none in progress, its write to CMD and the taking with
  nothing between them. The write alone is a REGISTER_WRITE of its code 31h (log 5). -/
  | abort
  /-- WALK_ENDING (R180): the LSV takes the walk's request after an abort. -/
  | walkEnding
  /-- SOFT_RESET (R181, R182): the event, at every block, of the SOFT_RESET in progress; with none in progress that can be
  taken, its write to CMD and the event with nothing between them. The write alone is a REGISTER_WRITE of its code 3Eh
  (log 5). -/
  | softReset
  /-- UNKNOWN_COMMAND (R169): the word `w` written to CMD names no command. -/
  | unknownCommand (w : Word)
  /-- COLLISION (R171): the word `w` written to CMD while BUSY is 1. -/
  | collision (w : Word)
  /-- ISTAT_READ (R163). -/
  | istatRead
  /-- ISTAT_WRITE (R163) of the word `w`. -/
  | istatWrite (w : Word)
  /-- IEN_WRITE (R164) of the word `w`. -/
  | ienWrite (w : Word)
  /-- REGISTER_WRITE (R188): the host writes `w` to window word `word`; a write of CMD is the form `write` of the command it
  names. -/
  | registerWrite (word : Fin 16) (w : Word)
  /-- HEADER_BYTE_IN_GATHER (R76). -/
  | headerByteInGather (p : PortNo) (b : Byte)
  /-- MESSAGE_COMPLETE (R77): the fourth byte `b` of a message. -/
  | messageComplete (p : PortNo) (b : Byte)
  /-- SERVING (R92): the LSV takes the CPR's serving request. -/
  | serving
  /-- REPLY_SENT (R82): the frame that sends the fourth byte of the head reply. -/
  | replySent (p : PortNo)
  /-- LINE_FRAME (R137) of port `p`: the sample `rx` received on each channel, the framer alarm pin, the position of the
  line frame pulse or none (R115), and whether the Claim Channel takes this frame's signalling byte here (`cch`, log 7). -/
  | lineFrame (p : PortNo) (rx : Vector Byte 32) (alarm : Bool) (pulse : Option Nat) (cch : Bool)
  /-- FRAME_START (R140): the start of an internal frame. -/
  | frameStart
  /-- COMMITTED_REFILL (R95). -/
  | committedRefill (p : PortNo)
  /-- EXCESS_REFILL (R95). -/
  | excessRefill (p : PortNo)
  /-- FAULT_ASSERTED (R115, R116, R119). -/
  | faultAsserted (p : PortNo)
  /-- FAULT_CLEARED (R115, R116, R118, R120). -/
  | faultCleared (p : PortNo)
  /-- HOLD_EXPIRY (R117). -/
  | holdExpiry (p : PortNo)
  /-- RECOVERY_EXPIRY (R120). -/
  | recoveryExpiry (p : PortNo)
  /-- SWEEP_TICK (R145). -/
  | sweepTick
  /-- LOST (R121): the sweep tick at which port `p` becomes LOST. -/
  | lost (p : PortNo)
  /-- QUARANTINE_PHASE (R34, R146). -/
  | quarantinePhase
  /-- GUARD_EXPIRY (R34): the quarantine phase at which the guard of slot `sl` reaches 0. -/
  | guardExpiry (sl : SlotNo)
  /-- SWEEP_VISIT (R148). -/
  | sweepVisit
  /-- LEASE_EXPIRY (R149): the sweep visit at which the visited lease expires. -/
  | leaseExpiry
  /-- HIGHWAY_PULSE (R130, R131) at bit time `t`, with the highway-in stream from it on, a byte for each slot time of the two
  frame periods in which the slots of its highway frame stand (R133; log 11). -/
  | highwayPulse (t : BitTime) (hwIn : Vector Byte 256)
  /-- PULSE_MISSING (R130, R131), with the highway-in stream from the position that passes. -/
  | pulseMissing (hwIn : Vector Byte 256)
  /-- HOLD_ASSERTED (R152). -/
  | holdAsserted
  /-- HOLD_RELEASED (R152). -/
  | holdReleased
  /-- RESET_ASSERTED (R183). -/
  | resetAsserted
  /-- RESET_RELEASED (R183). -/
  | resetReleased
  /-- HEADER_BYTE_IN_HUNT (R75). -/
  | headerByteInHunt (p : PortNo) (b : Byte)
  /-- CONTINUATION_BYTE_IN_GATHER (R76). -/
  | continuationByteInGather (p : PortNo) (b : Byte)
  deriving DecidableEq, Repr

end Sys2Proof
end

