-- ==== Sys2Proof/Decode.lean ====
section
/-! DEFINITION. Reading a command from the table's bits: no row of spec/opcode_table.json gives any bits. -/

namespace Sys2Proof

/-- The command a word of the table's bits spells: every row's `fields` is empty and none has `fixed` bits, so no word
spells a command. -/
def decodeTableWord (_nbits _w : Nat) : Option Instr := none

end Sys2Proof
end

