-- ==== Sys2Proof/Config.lean ====
section
/-! DEFINITION. The capacities the manual fixes. The manual leaves no value free, so there is no free value here. -/

namespace Sys2Proof.Config

/-- A counter saturates here (R89, R132, R155). -/
def counterMax : Nat := 65535

/-- A reply queue holds at most 8 replies (R81). -/
def replyCapacity : Nat := 8

/-- The Claim Processor serves a port whose queue holds 6 replies or fewer (R91). -/
def servingLimit : Nat := 6

/-- One millisecond is 8 frames (00 §4.2, R116, R118). -/
def framesPerMs : Nat := 8

/-- The identification word (R187). -/
def identification : Word := 0x4128

end Sys2Proof.Config
end

