-- ==== Sys2Proof/Machine/Records.lean ====
section
/-! DEFINITION. The records of the ten blocks (00 §2.2) and their values after the RESET pin, as the chapters give them. -/

namespace Sys2Proof.Machine

/-! ### Lease records (chapter 1) -/

/-- Lease states (R2). -/
inductive LeaseState where
  | free | active | waiting | conditioned | retired
  deriving DecidableEq, Repr

/-- Lease kinds (R3). -/
inductive LeaseKind where
  | duplex | talk | listen
  deriving DecidableEq, Repr

/-- Origins (R3). -/
inductive Origin where
  | signaled | host
  deriving DecidableEq, Repr

/-- Retire causes (01 §1.5). -/
inductive RetireCause where
  | lineRelease | host | scope | expired | preempted | linkLost
  deriving DecidableEq, Repr

/-- Notice kinds (09 §9.1). -/
inductive Notice where
  | expired | preempted | linkLost | released | conditioned | restored | talkerChange
  deriving DecidableEq, Repr

/-- A set of notice kinds: seven bits, read and written by software (R189). -/
abbrev NoticeSet := BitVec 7

/-- One lease record (01 §1.1). -/
structure Lease where
  state : LeaseState
  kind : LeaseKind
  origin : Origin
  port : PortNo
  channel : ChanNo
  group : GroupNo
  cls : ClassNo
  slot : Option SlotNo
  pinned : Bool
  code : Option Byte
  idle : Nat
  tag : Option TagNo
  notices : NoticeSet
  cause : Option RetireCause
  deriving DecidableEq, Repr

/-- The cleared values of a FREE record (R2). -/
def Lease.cleared : Lease :=
  { state := .free, kind := .duplex, origin := .signaled, port := 0, channel := 0, group := 0, cls := 0, slot := none,
    pinned := false, code := none, idle := 0, tag := none, notices := 0, cause := none }

/-! ### Slots, pool and tap (chapter 2) -/

/-- Slot states (R30). -/
inductive SlotState where
  | free | quarantine | reserved | held
  deriving DecidableEq, Repr

/-- Home of a HELD slot (R31). -/
inductive Home where
  | pool | reserved
  deriving DecidableEq, Repr

/-- One slot record (02 §2.1). -/
structure SlotRec where
  state : SlotState
  home : Option Home
  holder : Option LeaseNo
  guard : Option Nat
  deriving DecidableEq, Repr

/-- A FREE slot: home, holder and guard absent (R51). -/
def SlotRec.free : SlotRec := { state := .free, home := none, holder := none, guard := none }

/-- A RESERVED slot. -/
def SlotRec.reserved : SlotRec := { state := .reserved, home := none, holder := none, guard := none }

/-- Tap states (02 §2.8). -/
inductive TapState where
  | off | on | ended
  deriving DecidableEq, Repr

/-- Tap end reasons (02 §2.8). -/
inductive EndReason where
  | sourceRetired | reset
  deriving DecidableEq, Repr

/-- The monitor tap (02 §2.8). -/
structure Tap where
  state : TapState
  source : Option LeaseNo
  target : Option SlotNo
  endReason : Option EndReason
  deriving DecidableEq, Repr

/-- The tap after a clearing reset (R51). -/
def Tap.initial : Tap := { state := .off, source := none, target := none, endReason := some .reset }

/-! ### Groups (chapter 3) -/

/-- One group record (03 §3.1). -/
structure Group where
  enabled : Bool
  members : BitVec 4
  admitNonMember : Bool
  expiryLimit : Nat
  listenerCap : Nat
  mask : NoticeSet
  talker : Option LeaseNo
  listeners : List LeaseNo
  deriving DecidableEq, Repr

/-- Default record of group `g` (R70): the mask is {EXPIRED, PREEMPTED, LINK_LOST}, bits 0 to 2. -/
def Group.initial (g : GroupNo) : Group :=
  { enabled := decide (g = 0), members := if g = 0 then 15 else 0, admitNonMember := false, expiryLimit := 6,
    listenerCap := 8, mask := 7, talker := none, listeners := [] }

/-! ### The Lease Supervisor -/

/-- All table state of the Lease Supervisor (00 §2.2). -/
structure Lsv where
  leases : Vector Lease 128
  chanMap : Vector (Vector (Option LeaseNo) 32) 4
  slots : Vector SlotRec 128
  freeList : List SlotNo
  quarantine : List SlotNo
  guardSetting : Nat
  floors : Vector Nat 4
  groups : Vector Group 32
  tap : Tap
  attention : List LeaseNo
  deriving DecidableEq, Repr

/-- The tables after the RESET pin (R29, R51, R70, R168). -/
def Lsv.initial : Lsv :=
  { leases := Vector.replicate 128 Lease.cleared
    chanMap := Vector.replicate 4 (Vector.replicate 32 none)
    slots := Vector.replicate 128 SlotRec.free
    freeList := List.finRange 128
    quarantine := []
    guardSetting := 1
    floors := #v[16, 8, 4, 0]
    groups := tab 32 Group.initial
    tap := Tap.initial
    attention := [] }

/-! ### Line Port Interface (chapter 6) -/

/-- Admin states (R111). -/
inductive Admin where
  | closed | drain | opened
  deriving DecidableEq, Repr

/-- Port formats (R114). -/
inductive Format where
  | f32 | f24
  deriving DecidableEq, Repr

/-- Port conditions (06 §6.5). -/
inductive Condition where
  | normal | pending | faulted | recovering
  deriving DecidableEq, Repr

/-- State of a Line Port Interface (06 §6.1), with the fault input's level and the expected line pulse (R115).
A timer that has run out holds `some 0` until its expiry is taken; `counting` is no until the first frame after a timer's
start has begun (log 12). -/
structure Lpi where
  admin : Admin
  format : Format
  condition : Condition
  code : Byte
  faultHold : Nat
  recoveryTime : Nat
  releaseTimeout : Nat
  holdTimer : Option Nat
  recoveryTimer : Option Nat
  counting : Bool
  countdown : Nat
  lost : Bool
  faultIn : Bool
  expected : Option Nat
  deriving DecidableEq, Repr

/-- A port after the RESET pin (R128); with no expected pulse position the fault input is asserted (R115, log 9). -/
def Lpi.initial : Lpi :=
  { admin := .closed, format := .f32, condition := .normal, code := 0xFF, faultHold := 10, recoveryTime := 100,
    releaseTimeout := 3, holdTimer := none, recoveryTimer := none, counting := false, countdown := 0,
    lost := false, faultIn := true,
    expected := none }

/-! ### Claim Channel (chapter 4) -/

/-- Assembly (R75, R76): HUNT, or GATHER with one, two or three bytes gathered. -/
inductive Assembly where
  | hunt
  | gather1 (b1 : Byte)
  | gather2 (b1 b2 : Byte)
  | gather3 (b1 b2 b3 : Byte)
  deriving DecidableEq, Repr

/-- A checked message with all its fields as received (R73, R79). -/
structure Message where
  kind : Fin 8
  tag : TagNo
  lkind : Fin 4
  channel : ChanNo
  cls : ClassNo
  group : GroupNo
  check : Fin 128
  deriving DecidableEq, Repr

/-- Reply kinds (R86). -/
inductive ReplyKind where
  | grant | wait | refuse | released | status | revoked
  deriving DecidableEq, Repr

/-- A reply (R86): `second` is the lease kind, or the state in STATUS; `third` the slot, reason or 0. -/
structure Reply where
  kind : ReplyKind
  tag : TagNo
  second : Fin 4
  channel : ChanNo
  third : Fin 128
  deriving DecidableEq, Repr

/-- The seven counters of a port (R89). -/
structure Counters where
  checkErr : Nat
  fragment : Nat
  overrun : Nat
  refused : Nat
  rate : Nat
  tableFull : Nat
  replyLost : Nat
  deriving DecidableEq, Repr

/-- All seven counters at 0 (R89). -/
def Counters.zero : Counters :=
  { checkErr := 0, fragment := 0, overrun := 0, refused := 0, rate := 0, tableFull := 0, replyLost := 0 }

/-- State of a Claim Channel (00 §2.2). `sent` counts the bytes of the head reply already sent (R82). -/
structure Cch where
  assembly : Assembly
  bufA : Option Message
  bufB : Option Message
  queue : List Reply
  sent : Fin 4
  counters : Counters
  deriving DecidableEq, Repr

/-- A Claim Channel after any reset (R90). -/
def Cch.initial : Cch :=
  { assembly := .hunt, bufA := none, bufB := none, queue := [], sent := 0, counters := Counters.zero }

/-! ### Claim Meter and Claim Processor (chapter 5) -/

/-- State of a Claim Meter (05 §5.2). `committedDue` and `excessDue` count the refills whose frame has come and whose
event is not yet taken (log 4). -/
structure Cmt where
  ci : Nat
  cbs : Nat
  ei : Nat
  ebs : Nat
  margin : Nat
  committed : Nat
  excess : Nat
  committedCount : Nat
  excessCount : Nat
  committedDue : Nat
  excessDue : Nat
  deriving DecidableEq, Repr

/-- The default meter (R110). -/
def Cmt.initial : Cmt :=
  { ci := 800, cbs := 4, ei := 0, ebs := 0, margin := 8, committed := 4, excess := 0, committedCount := 0,
    excessCount := 0, committedDue := 0, excessDue := 0 }

/-- The three blocks built once per port. -/
structure Port where
  lpi : Lpi
  cch : Cch
  cmt : Cmt
  deriving DecidableEq, Repr

/-- A port after the RESET pin (R90, R110, R128). -/
def Port.initial : Port := { lpi := Lpi.initial, cch := Cch.initial, cmt := Cmt.initial }

/-- State of the Claim Processor (R91, R92). -/
structure Cpr where
  pointer : PortNo
  requested : Bool
  deriving DecidableEq, Repr

/-- The Claim Processor after any reset (R110). -/
def Cpr.initial : Cpr := { pointer := 3, requested := false }

/-! ### Sweep Timer (chapter 8) -/

/-- Sweep states with the visit position (08 §8.1). -/
inductive Sweep where
  | idle
  | qphase
  | lphase (position : LeaseNo)
  deriving DecidableEq, Repr

/-- State of the Sweep Timer (08 §8.1). `ticksDue` counts the ticks made and not yet taken (log 4). -/
structure Swt where
  running : Bool
  prescaler : Nat
  modulo : Nat
  prescalerCount : Nat
  counter : Nat
  pendingTick : Bool
  sweep : Sweep
  request : Bool
  overrun : Nat
  ticksDue : Nat
  deriving DecidableEq, Repr

/-- The Sweep Timer after the RESET pin (R156). -/
def Swt.initial : Swt :=
  { running := false, prescaler := 128, modulo := 625, prescalerCount := 0, counter := 0, pendingTick := false,
    sweep := .idle, request := false, overrun := 0, ticksDue := 0 }

/-! ### Highway Interface and Payload Switch (chapter 7) -/

/-- Alignment states (R130). -/
inductive Alignment where
  | seek | confirm | aligned
  deriving DecidableEq, Repr

/-- State of the Highway Interface (07 §7.1). -/
structure Hwi where
  alignment : Alignment
  expected : Option BitTime
  confirmCount : Nat
  missCount : Nat
  offset : Fin 128
  idleCode : Byte
  realign : Nat
  deriving DecidableEq, Repr

/-- No slot has content, or every slot is floated. -/
def floated : Vector (Option Byte) 128 := Vector.replicate 128 none

/-- The Highway Interface after the RESET pin (R143). -/
def Hwi.initial : Hwi :=
  { alignment := .seek, expected := none, confirmCount := 0, missCount := 0, offset := 0, idleCode := 0x7F, realign := 0 }

/-- An aligned highway frame (R133, R135): the bit time of the pulse, taken or freewheeled, that began it in its internal
frame, the slot offset it is placed with, and what it drives on each slot. -/
structure HighwayFrame where
  start : BitTime
  offset : Fin 128
  content : Vector (Option Byte) 128
  deriving DecidableEq, Repr

/-- What the Payload Switch selects for a line transmit channel at the start of a frame (R137). -/
inductive LineSel where
  /-- The Claim Channel transmitter's byte. -/
  | signalling
  /-- A byte fixed at the start of the frame. -/
  | byte (b : Byte)
  /-- The highway-in sample of slot `sl` for the previous frame if aligned, otherwise the conditioning code. -/
  | highwayIn (sl : SlotNo) (code : Byte)
  deriving DecidableEq, Repr

/-- State of the Payload Switch: the sample store of the previous frame, the samples being received in the present frame,
the selections of the present frame with each port's format in it, and what is sent (R114, R134 to R137). `carried` marks the
ports whose line frame the present internal frame has carried (the model's own field, log 11). A highway-in sample that is
not aligned is `none`. `begun`, `begunBefore` and `begunEarlier` are the aligned highway frames begun in the present
internal frame, in the one before it and in the one before that, whose slots can still stand in the present one (R133). -/
structure Psw where
  lineStore : Vector (Vector Byte 32) 4
  hwStore : Vector (Option Byte) 128
  lineRx : Vector (Vector Byte 32) 4
  hwRx : Vector (Option Byte) 128
  slotSel : Vector (Option Byte) 128
  lineSel : Vector (Vector LineSel 32) 4
  formats : Vector Format 4
  begun : Option HighwayFrame
  begunBefore : Option HighwayFrame
  begunEarlier : Option HighwayFrame
  lineTx : Vector (Vector Byte 32) 4
  carried : Vector Bool 4
  deriving DecidableEq, Repr

/-- The line selections while RESET is asserted (R143): the idle code 7Fh, and channel 16 the signalling channel of F32. -/
def resetLineSel : Vector (Vector LineSel 32) 4 :=
  Vector.replicate 4 (tab 32 fun c => if c.val = 16 then LineSel.signalling else LineSel.byte 0x7F)

/-- The bytes sent while RESET is asserted (R143): 7Fh, and 00h on the signalling channel. -/
def resetLineTx : Vector (Vector Byte 32) 4 :=
  Vector.replicate 4 (tab 32 fun c => if c.val = 16 then (0x00 : Byte) else 0x7F)

/-- The Payload Switch of State.reset: the manual gives the sample store no reset value (log 13). -/
def Psw.initial : Psw :=
  { lineStore := Vector.replicate 4 (Vector.replicate 32 0), hwStore := floated
    lineRx := Vector.replicate 4 (Vector.replicate 32 0), hwRx := floated
    slotSel := floated, lineSel := resetLineSel, formats := Vector.replicate 4 .f32
    begun := none, begunBefore := none, begunEarlier := none, lineTx := resetLineTx
    carried := Vector.replicate 4 false }

/-! ### Command Port (chapter 10) -/

/-- The commands of the catalogue (R174). -/
inductive HostCmd where
  | leaseRead | leaseFind | leaseCreate | leaseModify | leaseRetire | noticeTake
  | slotRead | slotReserve | slotRelease | leaseMove | poolRead | poolSet | monitorSet | monitorClear
  | groupRead | groupWrite | listenerRead
  | portRead | portSet | meterRead | meterSet | countersRead
  | highwayRead | highwaySet | sweepRead | sweepSet | refusalRead | retireScope
  | abort | softReset
  deriving DecidableEq, Repr

/-- Result codes (R173). -/
inductive ResultCode where
  | ok | notLive | inUse | badArg | tableFull | talkBusy | slotGuard | groupFull | portBusy | groupBusy | tapBusy
  | empty | aborted | none | unknown | portClosed
  deriving DecidableEq, Repr

/-- What a RETIRE_SCOPE reaches (R175). -/
inductive Reach where
  | port (p : PortNo)
  | group (g : GroupNo)
  | all
  deriving DecidableEq, Repr

/-- The scope of a walk (R176). -/
structure Scope where
  reach : Reach
  pinned : Bool
  host : Bool
  deriving DecidableEq, Repr

/-- The walker (10 §10.1). `starting` is an outstanding walk start; `scope` is present while the walk is in flight;
`resetWaits` is a SOFT_RESET of a bad mode that completes with the walk's ending (R182). -/
structure Walker where
  starting : Bool
  scope : Option Scope
  position : Nat
  count : Nat
  abort : Bool
  resetWaits : Bool
  deriving DecidableEq, Repr

/-- The walker with no walk in flight (R183). -/
def Walker.initial : Walker :=
  { starting := false, scope := none, position := 0, count := 0, abort := false, resetWaits := false }

/-- State of the Command Port (10 §10.1). BUSY is 1 exactly while a command is in progress. `dataOut` is the word the
host data lines carried at the last read row (log 14). -/
structure Cpt where
  args : Vector Word 4
  latched : Vector Word 4
  res : Vector Word 4
  inProgress : Option HostCmd
  collide : Bool
  last : ResultCode
  walker : Walker
  dataOut : Word
  deriving DecidableEq, Repr

/-- The Command Port after the release of RESET (R183). -/
def Cpt.initial : Cpt :=
  { args := Vector.replicate 4 0, latched := Vector.replicate 4 0, res := Vector.replicate 4 0, inProgress := none,
    collide := false, last := .ok, walker := Walker.initial, dataOut := 0 }

/-! ### Notice Unit (chapter 9) -/

/-- Refusal reasons (R87). -/
inductive Reason where
  | badKind | badChan | portShut | notMember | rate | poolLow | tableFull | inUse | noLease | talkBusy | groupFull
  | scopeBusy | badGroup | hostOwned
  deriving DecidableEq, Repr

/-- An entry of the refusal record (09 §9.4). -/
structure Refused where
  port : PortNo
  channel : ChanNo
  lkind : Fin 4
  tag : TagNo
  reason : Reason
  deriving DecidableEq, Repr

/-- State of the Notice Unit (09 §9.3, §9.4). Bit 0 of `status` and `marks` is not used: ATTN follows the attention list
(R161) and has no read mark. -/
structure Ntu where
  status : BitVec 7
  marks : BitVec 7
  ien : BitVec 7
  first : Option Refused
  latest : Option Refused
  deriving DecidableEq, Repr

/-- The Notice Unit after the RESET pin (R168). -/
def Ntu.initial : Ntu := { status := 0, marks := 0, ien := 0, first := none, latest := none }

/-- The levels of the RESET and HOLD pins, true when asserted. -/
structure Pins where
  reset : Bool
  hold : Bool
  deriving DecidableEq, Repr

end Sys2Proof.Machine
end

