-- ==== Sys2Proof/Machine/Operands.lean ====
section
/-! DEFINITION. Formats (chapter 12): fields of argument words, codes of result words, and the bytes of messages and replies. -/

namespace Sys2Proof.Machine

/-! ### Fields of a word (R189) -/

/-- Bits 15..8 of a word. -/
def hi (w : Word) : Nat := w.toNat / 256

/-- Bits 7..0 of a word. -/
def lo (w : Word) : Nat := w.toNat % 256

/-- A number as an index below `n`, or none when it is out of range. -/
def below (n x : Nat) : Option (Fin n) := if h : x < n then some ⟨x, h⟩ else none

/-- A word holding a number; the numbers written are all below 65536. -/
def word (x : Nat) : Word := BitVec.ofNat 16 x

/-- A flag as a bit value (R189). -/
def flag (b : Bool) : Nat := if b then 1 else 0

/-- A number, or the value that stands for none. -/
def orNone {n : Nat} (x : Option (Fin n)) (absent : Nat) : Nat := (x.map Fin.val).getD absent

/-- The conditioning code carried in a byte field. -/
def byteOf (x : Nat) : Byte := BitVec.ofNat 8 x

/-! ### Window words (R174, R187, R188) -/

/-- The command codes of the catalogue (R174): commands on leases, slots, the pool and the tap. -/
def tableCodes : List (Nat × HostCmd) :=
  [(0x01, .leaseRead), (0x02, .leaseFind), (0x03, .leaseCreate), (0x04, .leaseModify), (0x05, .leaseRetire),
   (0x06, .noticeTake), (0x08, .slotRead), (0x09, .slotReserve), (0x0A, .slotRelease), (0x0B, .leaseMove),
   (0x0C, .poolRead), (0x0D, .poolSet), (0x0E, .monitorSet), (0x0F, .monitorClear)]

/-- The command codes of the catalogue (R174): commands on groups, ports, timing and the whole part. -/
def partCodes : List (Nat × HostCmd) :=
  [(0x10, .groupRead), (0x11, .groupWrite), (0x12, .listenerRead), (0x18, .portRead), (0x19, .portSet),
   (0x1A, .meterRead), (0x1B, .meterSet), (0x1C, .countersRead), (0x20, .highwayRead), (0x21, .highwaySet),
   (0x22, .sweepRead), (0x23, .sweepSet), (0x28, .refusalRead), (0x30, .retireScope), (0x31, .abort),
   (0x3E, .softReset)]

/-- The command a word written to CMD names (R174, R188): bits 7..0 hold its code and bits 15..8 are 0. -/
def commandOf (w : Word) : Option HostCmd := (tableCodes ++ partCodes).lookup w.toNat

/-- A word written to CMD names a command of the catalogue. -/
def namesCommand (w : Word) : Bool := (commandOf w).isSome

/-- Code of ABORT (R174). -/
def abortCode : Word := 0x31

/-- Code of SOFT_RESET (R174). -/
def softResetCode : Word := 0x3E

/-! ### Codes of fields (R173, R189) -/

/-- Lease state codes. -/
def LeaseState.toCode : LeaseState → Nat
  | .free => 0 | .active => 1 | .waiting => 2 | .conditioned => 3 | .retired => 4

/-- Lease kind codes. -/
def LeaseKind.toCode : LeaseKind → Nat
  | .duplex => 0 | .talk => 1 | .listen => 2

/-- The lease kind a code names. -/
def kindOf : Nat → Option LeaseKind
  | 0 => some .duplex | 1 => some .talk | 2 => some .listen | _ => none

/-- Origin codes. -/
def Origin.toCode : Origin → Nat
  | .signaled => 0 | .host => 1

/-- Retire cause codes; 0 is none. -/
def RetireCause.toCode : RetireCause → Nat
  | .lineRelease => 1 | .host => 2 | .scope => 3 | .expired => 4 | .preempted => 5 | .linkLost => 6

/-- Admin state codes. -/
def Admin.toCode : Admin → Nat
  | .closed => 0 | .drain => 1 | .opened => 2

/-- The admin state a code names. -/
def adminOf : Nat → Option Admin
  | 0 => some .closed | 1 => some .drain | 2 => some .opened | _ => none

/-- Format codes. -/
def Format.toCode : Format → Nat
  | .f32 => 0 | .f24 => 1

/-- The format a code names. -/
def formatOf : Nat → Option Format
  | 0 => some .f32 | 1 => some .f24 | _ => none

/-- Condition codes. -/
def Condition.toCode : Condition → Nat
  | .normal => 0 | .pending => 1 | .faulted => 2 | .recovering => 3

/-- Slot state codes. -/
def SlotState.toCode : SlotState → Nat
  | .free => 0 | .quarantine => 1 | .reserved => 2 | .held => 3

/-- Slot home codes. -/
def Home.toCode : Home → Nat
  | .pool => 0 | .reserved => 1

/-- Tap state codes. -/
def TapState.toCode : TapState → Nat
  | .off => 0 | .on => 1 | .ended => 2

/-- Tap end reason codes; 0 is none. -/
def EndReason.toCode : EndReason → Nat
  | .sourceRetired => 1 | .reset => 2

/-- Alignment state codes. -/
def Alignment.toCode : Alignment → Nat
  | .seek => 0 | .confirm => 1 | .aligned => 2

/-- Sweep state codes. -/
def Sweep.toCode : Sweep → Nat
  | .idle => 0 | .qphase => 1 | .lphase _ => 2

/-- The visit position, present in LPHASE only. -/
def Sweep.position : Sweep → Option LeaseNo
  | .idle => none | .qphase => none | .lphase n => some n

/-- Result codes (R173). -/
def ResultCode.toCode : ResultCode → Nat
  | .ok => 0x00 | .notLive => 0x01 | .inUse => 0x02 | .badArg => 0x03 | .tableFull => 0x04 | .talkBusy => 0x05
  | .slotGuard => 0x06 | .groupFull => 0x07 | .portBusy => 0x08 | .groupBusy => 0x09 | .tapBusy => 0x0A
  | .empty => 0x0B | .aborted => 0x0C | .none => 0x0D | .unknown => 0x0F | .portClosed => 0x10

/-- Refusal reason codes (R87). -/
def Reason.toCode : Reason → Fin 128
  | .badKind => 1 | .badChan => 2 | .portShut => 3 | .notMember => 4 | .rate => 5 | .poolLow => 6 | .tableFull => 7
  | .inUse => 8 | .noLease => 9 | .talkBusy => 10 | .groupFull => 11 | .scopeBusy => 12 | .badGroup => 13
  | .hostOwned => 14

/-- Reply kind codes (R86). -/
def ReplyKind.toCode : ReplyKind → Nat
  | .grant => 1 | .wait => 2 | .refuse => 3 | .released => 4 | .status => 5 | .revoked => 6

/-- The lease kind field of a reply (R86). -/
def LeaseKind.field : LeaseKind → Fin 4
  | .duplex => 0 | .talk => 1 | .listen => 2

/-- The state field of a STATUS reply (R86): NONE 0, ACTIVE 1, WAITING 2, CONDITIONED 3. -/
def LeaseState.field : LeaseState → Fin 4
  | .free => 0 | .active => 1 | .waiting => 2 | .conditioned => 3 | .retired => 0

/-! ### Notice sets (R189) -/

/-- The bit of a notice kind. -/
def Notice.bit : Notice → Nat
  | .expired => 0 | .preempted => 1 | .linkLost => 2 | .released => 3 | .conditioned => 4 | .restored => 5
  | .talkerChange => 6

/-- The set holds the kind. -/
def NoticeSet.has (n : NoticeSet) (k : Notice) : Bool := n.getLsbD k.bit

/-- The set with the kind added; adding a kind it holds leaves it as it is (R8). -/
def NoticeSet.add (n : NoticeSet) (k : Notice) : NoticeSet := n ||| BitVec.twoPow 7 k.bit

/-! ### Channels of a format (R71, R114) -/

/-- The signalling channel of a format. -/
def Format.signalling : Format → ChanNo
  | .f32 => 16 | .f24 => 24

/-- The bearer channels: 1..15 and 17..31 of F32, 1..23 of F24. -/
def Format.bearer (f : Format) (c : ChanNo) : Bool :=
  match f with
  | .f32 => c.val != 0 && c.val != 16
  | .f24 => c.val != 0 && c.val ≤ 23

/-! ### Claim channel bytes (R73, R74, R186) -/

/-- A header byte carries the start marker in bit 7 (R73, R186). -/
def isHeader (b : Byte) : Bool := b.getLsbD 7

/-- The seven-bit value of a byte (R73). -/
def sevenBit (b : Byte) : Nat := b.toNat % 128

/-- The check rule (R74): the four seven-bit values sum to a multiple of 128. -/
def checkPasses (b1 b2 b3 b4 : Byte) : Bool :=
  (sevenBit b1 + sevenBit b2 + sevenBit b3 + sevenBit b4) % 128 == 0

/-- The message whose four bytes are given (R186). -/
def messageOf (b1 b2 b3 b4 : Byte) : Message :=
  { kind := Fin.ofNat 8 (b1.toNat / 16), tag := Fin.ofNat 16 b1.toNat
    lkind := Fin.ofNat 4 (b2.toNat / 32), channel := Fin.ofNat 32 b2.toNat
    cls := Fin.ofNat 4 (b3.toNat / 32), group := Fin.ofNat 32 b3.toNat
    check := Fin.ofNat 128 b4.toNat }

/-- The first three seven-bit values of a reply (R186). -/
def Reply.value (r : Reply) : Fin 3 → Nat
  | 0 => r.kind.toCode * 16 + r.tag.val
  | 1 => r.second.val * 32 + r.channel.val
  | 2 => r.third.val

/-- The check value of a reply (R74). -/
def Reply.check (r : Reply) : Nat := (128 - (r.value 0 + r.value 1 + r.value 2) % 128) % 128

/-- The four bytes of a reply, the first with the start marker (R86, R186). -/
def Reply.byte (r : Reply) : Fin 4 → Byte
  | 0 => BitVec.ofNat 8 (128 + r.value 0)
  | 1 => BitVec.ofNat 8 (r.value 1)
  | 2 => BitVec.ofNat 8 (r.value 2)
  | 3 => BitVec.ofNat 8 r.check

/-! ### Result words of records (12 §12.5) -/

/-- RES0 of LEASE_READ and NOTICE_TAKE, and RES1 of LISTENER_READ. -/
def Lease.word0 (r : Lease) : Word :=
  word (r.state.toCode * 8192 + r.kind.toCode * 2048 + r.origin.toCode * 1024 + flag r.pinned * 512 + r.port.val * 128
    + r.cls.val * 32 + r.channel.val)

/-- RES1: slot or FFh, idle count. -/
def Lease.word1 (r : Lease) : Word := word (orNone r.slot 0xFF * 256 + r.idle)

/-- The tag fields of RES2. -/
def Lease.tagBits (r : Lease) : Nat := flag r.tag.isSome * 8192 + orNone r.tag 0 * 512

/-- RES2 of LEASE_READ: tag and conditioning code. -/
def Lease.word2 (r : Lease) : Word :=
  word (r.tagBits + flag r.code.isSome * 256 + (r.code.map BitVec.toNat).getD 0)

/-- RES2 of NOTICE_TAKE: tag and lease number. -/
def Lease.noticeWord2 (r : Lease) (l : LeaseNo) : Word := word (r.tagBits + l.val)

/-- RES3: group, retire cause, notice set. -/
def Lease.word3 (r : Lease) : Word :=
  word (r.group.val * 2048 + (r.cause.map RetireCause.toCode).getD 0 * 256 + r.notices.toNat)

/-- First word of a refusal entry; an absent entry is two words of 0. -/
def refusedWord0 : Option Refused → Word
  | none => 0
  | some e => word (32768 + e.port.val * 256 + e.lkind.val * 64 + e.channel.val)

/-- Second word of a refusal entry. -/
def refusedWord1 : Option Refused → Word
  | none => 0
  | some e => word (e.tag.val * 256 + e.reason.toCode.val)

end Sys2Proof.Machine
end

