-- ==== Sys2Proof/Machine/State.lean ====
section
/-! DEFINITION. The whole state of the part, plain data, and its value right after reset; the ways a command can stop. -/

namespace Sys2Proof.Machine

/-- The state of the part, block by block (00 §2.2), the pins, and the queue of the commands that are waiting. -/
structure State where
  lsv : Lsv
  ports : Vector Port 4
  cpr : Cpr
  swt : Swt
  hwi : Hwi
  psw : Psw
  cpt : Cpt
  ntu : Ntu
  pins : Pins
  pending : List Instr
  deriving DecidableEq, Repr

/-- The state right after the release of RESET (R29, R51, R70, R90, R110, R128, R143, R156, R168, R183; log 13), with
nothing in the queue. -/
def State.reset : State :=
  { lsv := Lsv.initial
    ports := Vector.replicate 4 Port.initial
    cpr := Cpr.initial
    swt := Swt.initial
    hwi := Hwi.initial
    psw := Psw.initial
    cpt := Cpt.initial
    ntu := Ntu.initial
    pins := { reset := false, hold := false }
    pending := [] }

/-- Events that stop the part: the manual names none, so there is no constructor. -/
inductive Fault where
  deriving DecidableEq, Repr

/-- Commands the model gives no meaning. -/
inductive Refusal where
  /-- Raised only by an arm of `exec` whose row has no meaning yet (safe: the model stops). No arm raises it. -/
  | notModelled (mnemonic : String)
  deriving DecidableEq, Repr

end Sys2Proof.Machine
end

