-- ==== Sys2Proof/Machine/Flags.lean ====
section
/-! DEFINITION. Every flag computation: the interrupt status, its read marks, the enables and the interrupt line (R161 to
R164), and the refusal record (R165, R166). -/

namespace Sys2Proof.Machine

/-- The status bits set by events (R162). -/
inductive StatusBit where
  | done | hwy | link | refuse | sweep | tap
  deriving DecidableEq, Repr

/-- Position of a status bit in ISTAT and IEN (R187). -/
def StatusBit.index : StatusBit → Nat
  | .done => 1 | .hwy => 2 | .link => 3 | .refuse => 4 | .sweep => 5 | .tap => 6

/-- Bits 1..6, the bits that have a read mark (R163). -/
def markedBits : BitVec 7 := 0x7E

/-- A setting event: the bit becomes 1 and its read mark no (R162, R163). -/
def Ntu.raise (n : Ntu) (b : StatusBit) : Ntu :=
  { n with status := n.status ||| BitVec.twoPow 7 b.index, marks := n.marks &&& ~~~(BitVec.twoPow 7 b.index) }

/-- A setting event of the machine. -/
def State.raise (s : State) (b : StatusBit) : State := { s with ntu := s.ntu.raise b }

/-- A setting event that happens only under a condition. -/
def State.raiseIf (s : State) (c : Bool) (b : StatusBit) : State := if c then s.raise b else s

/-- ISTAT as it stands: the six stored bits, and ATTN while the attention list is non-empty (R161). -/
def State.istat (s : State) : BitVec 7 :=
  (s.ntu.status &&& markedBits) ||| (if s.lsv.attention = [] then 0 else 1)

/-- A host read of ISTAT makes every read mark yes (R163). -/
def Ntu.markRead (n : Ntu) : Ntu := { n with marks := markedBits }

/-- A host write of ISTAT clears each of bits 1..6 that is written 1 and whose read mark is yes (R163, R188). -/
def Ntu.writeStatus (n : Ntu) (w : Word) : Ntu :=
  { n with status := n.status &&& ~~~(w.setWidth 7 &&& n.marks &&& markedBits) }

/-- A host write of IEN replaces bits 6..0 (R164, R188). -/
def Ntu.writeEnables (n : Ntu) (w : Word) : Ntu := { n with ien := w.setWidth 7 }

/-- The interrupt line: asserted while an enabled bit of ISTAT is 1, released while RESET is asserted (R164). -/
def State.irqLine (s : State) : Bool := !s.pins.reset && (s.istat &&& s.ntu.ien) != 0

/-- The refusal record takes a refusal (R165). -/
def Ntu.recordRefusal (n : Ntu) (e : Refused) : Ntu :=
  { n with first := some (n.first.getD e), latest := some e }

/-- The refusal record emptied (R166, R168). -/
def Ntu.clearRefusals (n : Ntu) : Ntu := { n with first := none, latest := none }

end Sys2Proof.Machine
end

