-- ==== Sys2Proof/Machine/Tables.lean ====
section
/-! DEFINITION. Table operations of the Lease Supervisor on its own state (chapters 1, 2, 3, 9): allocation, slots, the
pool, talkers and listeners, notices, creation and the common retirement. An operation gives the unsolicited replies it makes
in order; Ops.lean places them. -/

namespace Sys2Proof.Machine

/-! ### Leases and the channel map -/

/-- A live record (01 §1.1). -/
def Lease.live (r : Lease) : Bool :=
  match r.state with
  | .active => true | .waiting => true | .conditioned => true | .free => false | .retired => false

/-- A lease that ages, is given up for LINK_LOST and may be preempted: SIGNALED and not pinned (R5). -/
def Lease.yields (r : Lease) : Bool := r.origin == .signaled && !r.pinned

/-- Replace record `l`. -/
def Lsv.setLease (v : Lsv) (l : LeaseNo) (r : Lease) : Lsv := { v with leases := upd v.leases l r }

/-- Set the channel-map entry of a port and channel (R12). -/
def Lsv.bind (v : Lsv) (p : PortNo) (c : ChanNo) (e : Option LeaseNo) : Lsv :=
  { v with chanMap := upd v.chanMap p (upd v.chanMap[p] c e) }

/-- The channel-map entry of a port and channel. -/
def Lsv.entry (v : Lsv) (p : PortNo) (c : ChanNo) : Option LeaseNo := v.chanMap[p][c]

/-- The lowest-numbered FREE record (R15). -/
def Lsv.lowestFree (v : Lsv) : Option LeaseNo :=
  (List.finRange 128).find? fun l => v.leases[l].state == .free

/-- Lease numbers, ascending, whose live record meets a test. -/
def Lsv.liveWhere (v : Lsv) (t : Lease → Bool) : List LeaseNo :=
  (List.finRange 128).filter fun l => v.leases[l].live && t v.leases[l]

/-- Replace group record `g`. -/
def Lsv.setGroup (v : Lsv) (g : GroupNo) (r : Group) : Lsv := { v with groups := upd v.groups g r }

/-- The slot of the group's talker (R61). -/
def Lsv.talkerSlot (v : Lsv) (g : GroupNo) : Option SlotNo :=
  v.groups[g].talker.bind fun t => v.leases[t].slot

/-! ### Notices and the attention list -/

/-- The notice rule of R8 and R54: always for a HOST lease, by the group's mask for a SIGNALED one. -/
def Lsv.collects (v : Lsv) (r : Lease) (k : Notice) : Bool :=
  r.origin == .host || v.groups[r.group].mask.has k

/-- Add a notice kind to lease `l`; a set that becomes non-empty joins the attention list's tail (R8, R158). -/
def Lsv.addNotice (v : Lsv) (l : LeaseNo) (k : Notice) : Lsv :=
  let r := v.leases[l]
  if v.collects r k then
    { v.setLease l { r with notices := r.notices.add k } with
      attention := if r.notices = 0 then v.attention ++ [l] else v.attention }
  else v

/-! ### Slots and the pool -/

/-- Replace slot record `sl`. -/
def Lsv.setSlot (v : Lsv) (sl : SlotNo) (r : SlotRec) : Lsv := { v with slots := upd v.slots sl r }

/-- A slot joins the pool: the quarantine tail with the current guard, or the free-list tail at guard setting 0 (R33). -/
def Lsv.toPool (v : Lsv) (sl : SlotNo) : Lsv :=
  if v.guardSetting = 0 then
    { v.setSlot sl SlotRec.free with freeList := v.freeList ++ [sl] }
  else
    { v.setSlot sl { state := .quarantine, home := none, holder := none, guard := some v.guardSetting } with
      quarantine := v.quarantine ++ [sl] }

/-- A HELD slot is given up by its home (R17, R31, R42). -/
def Lsv.giveUp (v : Lsv) (sl : SlotNo) : Lsv :=
  if v.slots[sl].home = some .reserved then v.setSlot sl SlotRec.reserved else v.toPool sl

/-- Lease `l` takes slot `sl`, which is FREE or RESERVED (R25, R31, R36, R42): a FREE slot leaves its place in the free
list with home POOL, a RESERVED one gets home RESERVED. -/
def Lsv.takeSlot (v : Lsv) (sl : SlotNo) (l : LeaseNo) : Lsv :=
  if v.slots[sl].state = .reserved then
    v.setSlot sl { state := .held, home := some .reserved, holder := some l, guard := none }
  else
    { v.setSlot sl { state := .held, home := some .pool, holder := some l, guard := none } with
      freeList := v.freeList.erase sl }

/-- The quarantine phase (R34): every guard falls by one, and the slots that reach 0 join the free-list tail in order. -/
def Lsv.quarantinePhase (v : Lsv) : Lsv :=
  let ends := fun sl : SlotNo => decide (v.slots[sl].guard.getD 0 ≤ 1)
  { v with
    slots := tab 128 fun sl =>
      if sl ∈ v.quarantine then
        if ends sl then SlotRec.free else { v.slots[sl] with guard := v.slots[sl].guard.map (· - 1) }
      else v.slots[sl]
    freeList := v.freeList ++ v.quarantine.filter ends
    quarantine := v.quarantine.filter fun sl => !ends sl }

/-- Slot `sl` is the target of the tap in state ON (R46). -/
def Lsv.tapTarget (v : Lsv) (sl : SlotNo) : Bool := v.tap.state == .on && v.tap.target == some sl

/-- The pool test (R35): more FREE slots than the class's floor plus the amber margin that applies. -/
def Lsv.poolTest (v : Lsv) (c : ClassNo) (margin : Nat) : Bool := decide (v.floors[c] + margin < v.freeList.length)

/-! ### Unsolicited replies and the scope of a walk -/

/-- An unsolicited reply on its way to a port's queue (R84, R88). -/
structure Unsolicited where
  port : PortNo
  reply : Reply
  deriving DecidableEq, Repr

/-- What a table operation leaves: the tables, the unsolicited replies in the order made, and whether the tap ended. -/
structure TableOp where
  lsv : Lsv
  out : List Unsolicited
  tapEnded : Bool
  deriving DecidableEq, Repr

/-- The scope reaches the port or the group (R99, R176). -/
def Reach.covers (x : Reach) (p : PortNo) (g : GroupNo) : Bool :=
  match x with
  | .port q => q == p
  | .group h => h == g
  | .all => true

/-- The lease lies in the scope of the walk (R176). -/
def Scope.includes (sc : Scope) (r : Lease) : Bool :=
  sc.reach.covers r.port r.group && (!r.pinned || sc.pinned) && (r.origin == .signaled || sc.host)

/-- The lease lies in the scope of an in-flight walk. -/
def inScope (sc : Option Scope) (r : Lease) : Bool :=
  match sc with
  | none => false
  | some x => x.includes r

/-- A STATUS reply for the lease in its present state, with its stored tag (R65, R88). R65 and R42 say that STATUS carries the
lease kind, R86 and R186 put the state in that field: the model sends the state (log 23). -/
def Lease.statusReply (r : Lease) (third : Fin 128) : Unsolicited :=
  { port := r.port
    reply := { kind := .status, tag := r.tag.getD 0, second := r.state.field, channel := r.channel, third := third } }

/-- The reason code of REVOKED (R21); LINE_RELEASE and LINK_LOST make none. -/
def RetireCause.revocation : RetireCause → Option (Fin 128)
  | .expired => some 32 | .preempted => some 33 | .host => some 34 | .scope => some 34
  | .lineRelease => none | .linkLost => none

/-- The REVOKED reply of a retirement, for SIGNALED leases only (R21). -/
def Lease.revokedReply (r : Lease) (cause : RetireCause) : List Unsolicited :=
  match r.origin, cause.revocation with
  | .signaled, some reason =>
    [{ port := r.port
       reply := { kind := .revoked, tag := r.tag.getD 0, second := r.kind.field, channel := r.channel, third := reason } }]
  | _, _ => []

/-- The notice kind of a retire cause (R22). -/
def RetireCause.notice : RetireCause → Option Notice
  | .lineRelease => some .released | .expired => some .expired | .preempted => some .preempted
  | .linkLost => some .linkLost | .host => none | .scope => none

/-! ### Talkers and listeners (chapter 3) -/

/-- One listener at a change of talker (R18, R56): a listener in state `old` becomes `new` with TALKER_CHANGE and, if
SIGNALED and outside the scope of a walk, STATUS; any other listener takes TALKER_CHANGE alone. -/
def moveListener (sc : Option Scope) (old new : LeaseState) (third : Fin 128) (acc : Lsv × List Unsolicited) (l : LeaseNo) :
    Lsv × List Unsolicited :=
  let r := acc.1.leases[l]
  if r.state = old then
    let r' := { r with state := new }
    ((acc.1.setLease l r').addNotice l .talkerChange,
      if r.origin = .signaled ∧ inScope sc r = false then acc.2 ++ [r'.statusReply third] else acc.2)
  else (acc.1.addNotice l .talkerChange, acc.2)

/-- The listeners of group `g`, in list order, when a talker holding slot `sl` arrives (R56). -/
def Lsv.attachListeners (v : Lsv) (sc : Option Scope) (g : GroupNo) (sl : SlotNo) : Lsv × List Unsolicited :=
  v.groups[g].listeners.foldl (moveListener sc .waiting .active sl) (v, [])

/-- The listeners of group `g`, in list order, when the talker is retired without preemption (R18). -/
def Lsv.detachListeners (v : Lsv) (sc : Option Scope) (g : GroupNo) : Lsv × List Unsolicited :=
  v.groups[g].listeners.foldl (moveListener sc .active .waiting 0) (v, [])

/-- The listeners of group `g` when the talker is replaced by preemption: TALKER_CHANGE alone (R18, R58). -/
def Lsv.replacedTalker (v : Lsv) (g : GroupNo) : Lsv :=
  v.groups[g].listeners.foldl (fun w l => w.addNotice l .talkerChange) v

/-- The victim of a listener claim (R63): among the SIGNALED, unpinned listeners the lowest class, and of that class the
one nearest the tail. -/
def Lsv.victim (v : Lsv) (g : GroupNo) : Option LeaseNo :=
  (v.groups[g].listeners.filter fun l => v.leases[l].yields).foldl
    (fun best l =>
      match best with
      | none => some l
      | some b => if v.leases[l].cls ≤ v.leases[b].cls then some l else some b) none

/-! ### Retirement (R16 to R22) -/

/-- The tap ends when its source is retired (R20). -/
def Lsv.feedsTap (v : Lsv) (l : LeaseNo) : Bool := v.tap.state == .on && v.tap.source == some l

/-- The group's side of a retirement (R18, R19). A preempted talker's listeners are treated after the new talker is made. -/
def Lsv.leaveGroup (v : Lsv) (sc : Option Scope) (preempted : Bool) (r : Lease) (l : LeaseNo) : Lsv × List Unsolicited :=
  let gr := v.groups[r.group]
  match r.kind with
  | .duplex => (v, [])
  | .listen => (v.setGroup r.group { gr with listeners := gr.listeners.erase l }, [])
  | .talk =>
    let w := v.setGroup r.group { gr with talker := none }
    if preempted then (w, []) else w.detachListeners sc r.group

/-- The final state of a retired record (R22): RETIRED with its cause while notices are left, otherwise FREE and cleared. -/
def Lease.ended (r : Lease) (cause : RetireCause) : Lease :=
  if r.notices = 0 then Lease.cleared else { r with state := .retired, slot := none, cause := some cause }

/-- The slot's side of a retirement (R17): a preempted talker's slot stays HELD. -/
def Lsv.leaveSlot (v : Lsv) (keepSlot : Bool) (r : Lease) : Lsv :=
  match r.slot with
  | some sl => if keepSlot then v else v.giveUp sl
  | none => v

/-- The tap's side of a retirement (R20). -/
def Lsv.leaveTap (v : Lsv) (l : LeaseNo) : Lsv :=
  if v.feedsTap l then { v with tap := { v.tap with state := .ended, endReason := some .sourceRetired } } else v

/-- The cause's notice and the record's final state (R22). -/
def Lsv.endRecord (v : Lsv) (cause : RetireCause) (l : LeaseNo) : Lsv :=
  let w := match cause.notice with
    | some k => v.addNotice l k
    | none => v
  w.setLease l (w.leases[l].ended cause)

/-- The common retirement of live lease `l` (R16 to R22). `keepSlot` is the preemption of a talker by a claiming talker,
whose slot passes to the new lease (R17, R58). Replies: REVOKED, then the listeners' STATUS (R21). -/
def Lsv.retire (v : Lsv) (sc : Option Scope) (cause : RetireCause) (keepSlot : Bool) (l : LeaseNo) : TableOp :=
  let r := v.leases[l]
  let g := ((v.bind r.port r.channel none).leaveSlot keepSlot r).leaveGroup sc keepSlot r l
  { lsv := (g.1.leaveTap l).endRecord cause l
    out := r.revokedReply cause ++ g.2
    tapEnded := v.feedsTap l }

/-! ### Creation (R9, R25, R100) -/

/-- The slot a new lease gets: none for a listener, a FREE or RESERVED slot, or the slot of the talker it preempts. -/
inductive NewSlot where
  | absent
  | taken (sl : SlotNo)
  | passed (sl : SlotNo)
  deriving DecidableEq, Repr

/-- The slot number of a new lease. -/
def NewSlot.slot : NewSlot → Option SlotNo
  | .absent => none | .taken sl => some sl | .passed sl => some sl

/-- The state of a new lease (R9). -/
def Lsv.newState (v : Lsv) (faulty : Bool) (kind : LeaseKind) (g : GroupNo) : LeaseState :=
  if faulty then .conditioned
  else if kind = .listen ∧ v.groups[g].talker = none then .waiting
  else .active

/-- The slot's side of a creation: the slot is taken, or its holder becomes the new lease (R30, R58). -/
def Lsv.joinSlot (v : Lsv) (ns : NewSlot) (n : LeaseNo) : Lsv :=
  match ns with
  | .absent => v
  | .taken sl => v.takeSlot sl n
  | .passed sl => v.setSlot sl { v.slots[sl] with holder := some n }

/-- The group's side of a creation (R55, R56, R58, R60). -/
def Lsv.joinGroup (v : Lsv) (sc : Option Scope) (ns : NewSlot) (r : Lease) (n : LeaseNo) : Lsv × List Unsolicited :=
  let gr := v.groups[r.group]
  match r.kind with
  | .duplex => (v, [])
  | .listen => (v.setGroup r.group { gr with listeners := gr.listeners ++ [n] }, [])
  | .talk =>
    let w := v.setGroup r.group { gr with talker := some n }
    match ns with
    | .passed _ => (w.replacedTalker r.group, [])
    | .taken sl => w.attachListeners sc r.group sl
    | .absent => (w, [])

/-- Create a lease in record `n` from the fields of `r` (R9): its state, slot, channel-map entry and group role. -/
def Lsv.create (v : Lsv) (sc : Option Scope) (faulty : Bool) (ns : NewSlot) (r : Lease) (n : LeaseNo) :
    Lsv × List Unsolicited :=
  let rec' := { r with state := v.newState faulty r.kind r.group, slot := ns.slot }
  (((v.joinSlot ns n).setLease n rec').bind r.port r.channel (some n)).joinGroup sc ns rec' n

end Sys2Proof.Machine
end

