-- ==== Sys2Proof/Machine/Ops.lean ====
section
/-! DEFINITION. Operations that several commands share: reply queues, the taking and completing of host commands, the
outcome of a table operation, the port events, and the register window's reads. -/

namespace Sys2Proof.Machine

/-! ### Counters and ports -/

/-- One more event of a saturating counter (R89, R132, R155). -/
def saturate (n : Nat) : Nat := if n < Config.counterMax then n + 1 else Config.counterMax

/-- Replace port `p`. -/
def State.setPort (s : State) (p : PortNo) (x : Port) : State := { s with ports := upd s.ports p x }

/-- Replace the Claim Channel of port `p`. -/
def State.setCch (s : State) (p : PortNo) (c : Cch) : State := s.setPort p { s.ports[p] with cch := c }

/-- Replace the Claim Meter of port `p`. -/
def State.setCmt (s : State) (p : PortNo) (m : Cmt) : State := s.setPort p { s.ports[p] with cmt := m }

/-- Replace the Line Port Interface of port `p`. -/
def State.setLpi (s : State) (p : PortNo) (l : Lpi) : State := s.setPort p { s.ports[p] with lpi := l }

/-- The port assembles, is served and is sent replies: OPEN or DRAIN with condition NORMAL or PENDING (R72, R84). -/
def Lpi.answers (l : Lpi) : Bool :=
  l.admin != .closed && (l.condition == .normal || l.condition == .pending)

/-- The port's leases are CONDITIONED: condition FAULTED or RECOVERING (R9, R117). -/
def Lpi.faulty (l : Lpi) : Bool := l.condition == .faulted || l.condition == .recovering

/-- Live leases bound to port `p` (R113, R127). -/
def Lsv.liveOnPort (v : Lsv) (p : PortNo) : List LeaseNo := v.liveWhere fun r => r.port == p

/-- Live leases of group `g` (R66, R67). -/
def Lsv.liveInGroup (v : Lsv) (g : GroupNo) : List LeaseNo := v.liveWhere fun r => r.group == g

/-! ### Reply queues (R81 to R85) -/

/-- A reply at the tail of the queue. -/
def Cch.append (c : Cch) (r : Reply) : Cch := { c with queue := c.queue ++ [r] }

/-- An unsolicited reply that finds no room is dropped and counted (R84). -/
def Cch.loseReply (c : Cch) : Cch :=
  { c with counters := { c.counters with replyLost := saturate c.counters.replyLost } }

/-- The room for unsolicited replies: the serving port keeps its last place for the solicited reply (R83, R84). -/
def unsolicitedRoom (serving : Option PortNo) (p : PortNo) : Nat :=
  if serving = some p then Config.replyCapacity - 1 else Config.replyCapacity

/-- Place or drop one unsolicited reply (R84). -/
def placeOne (serving : Option PortNo) (ports : Vector Port 4) (u : Unsolicited) : Vector Port 4 :=
  let x := ports[u.port]
  if !x.lpi.answers then ports
  else if x.cch.queue.length < unsolicitedRoom serving u.port then upd ports u.port { x with cch := x.cch.append u.reply }
  else upd ports u.port { x with cch := x.cch.loseReply }

/-- Place or drop the unsolicited replies of an operation, each tested as the earlier ones left the queues (R84). -/
def placeAll (serving : Option PortNo) (ports : Vector Port 4) (us : List Unsolicited) : Vector Port 4 :=
  us.foldl (placeOne serving) ports

/-- The emptying of R78, R80 and R85: HUNT, both buffers empty, queue empty, a reply in transmission cut. -/
def Cch.emptied (c : Cch) : Cch :=
  { c with assembly := .hunt, bufA := none, bufB := none, queue := [], sent := 0 }

/-- The machine after a table operation: its tables, its replies placed, and the TAP bit if a tap ended (R20, R84). -/
def State.afterTables (s : State) (serving : Option PortNo) (o : TableOp) : State :=
  { s with lsv := o.lsv, ports := placeAll serving s.ports o.out }.raiseIf o.tapEnded .tap

/-! ### Serving requests (R91) -/

/-- A port is eligible when buffer A holds a message and its queue holds 6 replies or fewer (R91). -/
def Port.eligible (x : Port) : Bool :=
  x.cch.bufA.isSome && decide (x.cch.queue.length ≤ Config.servingLimit)

/-- Some port is eligible. -/
def State.anyEligible (s : State) : Bool := (List.finRange 4).any fun p => s.ports[p].eligible

/-- In IDLE, the CPR enters REQUESTED as soon as a port is eligible (R91). -/
def State.pollServing (s : State) : State :=
  if s.anyEligible then { s with cpr := { s.cpr with requested := true } } else s

/-! ### Host commands (R169 to R171) -/

/-- BUSY: a command has been taken and has not completed. -/
def State.busy (s : State) : Bool := s.cpt.inProgress.isSome

/-- The scope of the in-flight walk, if any (R175). -/
def State.scope (s : State) : Option Scope := s.cpt.walker.scope

/-- A write of CMD is taken as a command: arguments latched, COLLIDE 0 (R169). -/
def State.latch (s : State) : State := { s with cpt := { s.cpt with latched := s.cpt.args, collide := false } }

/-- Command `c` is taken and in progress: BUSY is 1 (R169). -/
def State.taken (s : State) (c : HostCmd) : State :=
  { s.latch with cpt := { s.latch.cpt with inProgress := some c } }

/-- A collision sets COLLIDE and nothing else (R171). -/
def State.collided (s : State) : State := { s with cpt := { s.cpt with collide := true } }

/-- A completion (R170): result words, last result, BUSY 0, DONE set. -/
def State.complete (s : State) (code : ResultCode) (w0 w1 w2 w3 : Word) : State :=
  { s with cpt := { s.cpt with res := #v[w0, w1, w2, w3], last := code, inProgress := none } }.raise .done

/-- A completion without result words, as with every code that returns none (R170, R189). -/
def State.completeBare (s : State) (code : ResultCode) : State := s.complete code 0 0 0 0

/-- The latched arguments (R170). -/
def State.arg (s : State) (i : Fin 4) : Word := s.cpt.latched[i]

/-- The forms of a single command (log 5). `run` is the command's one table operation or event, on a state in which the
arguments are latched. While RESET is asserted the CPT takes no command (R183). -/
def hostCommand (c : HostCmd) (ph : Phase) (run : State → State) (s : State) : State :=
  if s.pins.reset then s
  else
    match ph with
    | .whole => if s.busy then s.collided else run (s.taken c)
    | .write => if s.busy then s.collided else s.taken c
    | .take => if s.cpt.inProgress = some c then run s else s

/-! ### Port events (R112, R116 to R120) -/

/-- Set the state of lease `l` and add a notice (R117, R120). -/
def changeLease (state : Lease → LeaseState) (k : Notice) (v : Lsv) (l : LeaseNo) : Lsv :=
  (v.setLease l { v.leases[l] with state := state v.leases[l] }).addNotice l k

/-- Every live lease of the port becomes CONDITIONED, in ascending order (R117). -/
def Lsv.conditionPort (v : Lsv) (p : PortNo) : Lsv :=
  (v.liveOnPort p).foldl (changeLease (fun _ => .conditioned) .conditioned) v

/-- The state a lease takes at the recovery of its port (R120). -/
def Lsv.restoredState (v : Lsv) (r : Lease) : LeaseState :=
  if r.kind = .listen ∧ v.groups[r.group].talker = none then .waiting else .active

/-- Every live lease of the port leaves CONDITIONED, in ascending order (R120). -/
def Lsv.restorePort (v : Lsv) (p : PortNo) : Lsv :=
  (v.liveOnPort p).foldl (changeLease v.restoredState .restored) v

/-- The entry to FAULTED (R117). -/
def State.enterFaulted (s : State) (p : PortNo) : State :=
  let x := s.ports[p]
  { s with
    lsv := s.lsv.conditionPort p
    ports := upd s.ports p
      { x with
        lpi := { x.lpi with condition := .faulted, holdTimer := none, countdown := x.lpi.releaseTimeout }
        cch := x.cch.emptied } }.raise .link

/-- The recovery of a port (R120). -/
def State.recover (s : State) (p : PortNo) : State :=
  let x := s.ports[p]
  { s with
    lsv := s.lsv.restorePort p
    ports := upd s.ports p
      { x with lpi := { x.lpi with condition := .normal, recoveryTimer := none, countdown := 0, lost := false } } }.raise .link

/-- A fault asserted event (R116, R119). -/
def Lpi.faultEvent (l : Lpi) : Lpi :=
  match l.condition with
  | .normal => { l with condition := .pending, holdTimer := some (Config.framesPerMs * l.faultHold), counting := false }
  | .recovering => { l with condition := .faulted, recoveryTimer := none }
  | .pending => l
  | .faulted => l

/-- A fault cleared event (R116, R118, R120). -/
def State.clearEvent (s : State) (p : PortNo) : State :=
  let l := s.ports[p].lpi
  match l.condition with
  | .pending => s.setLpi p { l with condition := .normal, holdTimer := none }
  | .faulted =>
    if l.recoveryTime = 0 then s.recover p
    else
      s.setLpi p
        { l with condition := .recovering, recoveryTimer := some (Config.framesPerMs * l.recoveryTime), counting := false }
  | .normal => s
  | .recovering => s

/-- The fault input of port `p` takes a level (R115): a change is an event, unless the port is CLOSED or RESET is asserted. -/
def State.faultInput (s : State) (p : PortNo) (level : Bool) : State :=
  let l := s.ports[p].lpi
  if level = l.faultIn then s
  else
    let t := s.setLpi p { l with faultIn := level }
    if s.pins.reset || l.admin == .closed then t
    else if level then t.setLpi p { l with faultIn := level }.faultEvent
    else t.clearEvent p

/-! ### Reads of the window (R187, R188) -/

/-- PSTAT: BUSY, COLLIDE and the last result code (R187). -/
def State.pstat (s : State) : Word :=
  word (flag s.busy * 32768 + flag s.cpt.collide * 16384 + s.cpt.last.toCode)

/-- The word a host read of a window word returns; while RESET is asserted every word but ID reads 0000h (R188). -/
def State.readWord (s : State) (n : Fin 16) : Word :=
  if n.val = 12 then Config.identification
  else if s.pins.reset then 0
  else if h : 1 ≤ n.val ∧ n.val ≤ 4 then s.cpt.args[(⟨n.val - 1, by omega⟩ : Fin 4)]
  else if h : 5 ≤ n.val ∧ n.val ≤ 8 then s.cpt.res[(⟨n.val - 5, by omega⟩ : Fin 4)]
  else if n.val = 9 then s.pstat
  else if n.val = 10 then s.istat.setWidth 16
  else if n.val = 11 then s.ntu.ien.setWidth 16
  else 0

end Sys2Proof.Machine
end

