-- ==== Sys2Proof/Machine/Admission.lean ====
section
/-! DEFINITION. Claim admission (chapter 5): the arbiter, the claim meter's colour, the admission checks, and the handling
of each message kind in one serving. -/

namespace Sys2Proof.Machine

/-! ### The claim meter (R96) -/

/-- Colours of a claim. -/
inductive Colour where
  | green | amber | red
  deriving DecidableEq, Repr

/-- The colour the meter gives a claim (R96). -/
def Cmt.colour (m : Cmt) : Colour := if 0 < m.committed then .green else if 0 < m.excess then .amber else .red

/-- The meter after a claim of that colour (R96). -/
def Cmt.take (m : Cmt) : Colour → Cmt
  | .green => { m with committed := m.committed - 1 }
  | .amber => { m with excess := m.excess - 1 }
  | .red => m

/-- The amber margin that enters the pool test (R35, R96). -/
def Cmt.marginFor (m : Cmt) : Colour → Nat
  | .amber => m.margin
  | .green => 0
  | .red => 0

/-! ### Admission of a CLAIM -/

/-- The record an admitted CLAIM creates (R100). -/
def claimRecord (p : PortNo) (m : Message) (k : LeaseKind) : Lease :=
  { Lease.cleared with kind := k, port := p, channel := m.channel, group := m.group, cls := m.cls, tag := some m.tag }

/-- What step 8 leaves: a refusal, or the tables with the new lease and the solicited reply's kind and slot. -/
inductive Admitted where
  | refused (reason : Reason)
  | made (op : TableOp) (kind : ReplyKind) (slot : SlotNo)
  deriving DecidableEq, Repr

/-- A pool-consuming claim (R35, R36, R101): the pool test and the grant of the free list's head. -/
def Lsv.grantFromPool (v : Lsv) (sc : Option Scope) (faulty : Bool) (margin : Nat) (r : Lease) (n : LeaseNo) : Admitted :=
  match v.poolTest r.cls margin, v.freeList.head? with
  | true, some sl =>
    let made := v.create sc faulty (.taken sl) r n
    .made { lsv := made.1, out := made.2, tapEnded := false } .grant sl
  | _, _ => .refused .poolLow

/-- A TALK claim in a group with talker `t` (R57, R58). -/
def Lsv.preemptTalker (v : Lsv) (sc : Option Scope) (faulty : Bool) (r : Lease) (n t : LeaseNo) : Admitted :=
  let old := v.leases[t]
  match old.yields && decide (old.cls < r.cls), old.slot with
  | true, some sl =>
    let gone := v.retire sc .preempted true t
    let made := gone.lsv.create sc faulty (.passed sl) r n
    .made { lsv := made.1, out := gone.out ++ made.2, tapEnded := gone.tapEnded } .grant sl
  | _, _ => .refused .talkBusy

/-- A listener joins its group (R60, R61, R103), after the operation `before` that made room for it. -/
def TableOp.listen (before : TableOp) (sc : Option Scope) (faulty : Bool) (r : Lease) (n : LeaseNo) : Admitted :=
  let made := before.lsv.create sc faulty .absent r n
  let op : TableOp := { lsv := made.1, out := before.out ++ made.2, tapEnded := before.tapEnded }
  if before.lsv.groups[r.group].talker = none then .made op .wait 0
  else .made op .grant ((before.lsv.talkerSlot r.group).getD 0)

/-- A LISTEN claim (R62, R63). -/
def Lsv.admitListener (v : Lsv) (sc : Option Scope) (faulty : Bool) (r : Lease) (n : LeaseNo) : Admitted :=
  let g := v.groups[r.group]
  if g.listenerCap = 0 then .refused .groupFull
  else if g.listeners.length < g.listenerCap then
    TableOp.listen { lsv := v, out := [], tapEnded := false } sc faulty r n
  else
    match v.victim r.group with
    | none => .refused .groupFull
    | some b =>
      if v.leases[b].cls < r.cls then (v.retire sc .preempted false b).listen sc faulty r n else .refused .groupFull

/-- Step 8 of R98, by lease kind (R101 to R103). -/
def Lsv.admitLease (v : Lsv) (sc : Option Scope) (faulty : Bool) (margin : Nat) (r : Lease) (n : LeaseNo) : Admitted :=
  match r.kind with
  | .duplex => v.grantFromPool sc faulty margin r n
  | .talk =>
    match v.groups[r.group].talker with
    | none => v.grantFromPool sc faulty margin r n
    | some t => v.preemptTalker sc faulty r n t
  | .listen => v.admitListener sc faulty r n

/-- A CLAIM on the port and group meets the walk in flight (R99); the walk's selections do not enter. -/
def scopeReaches (sc : Option Scope) (p : PortNo) (g : GroupNo) : Bool :=
  match sc with
  | none => false
  | some x => x.reach.covers p g

/-- Steps 1 to 5 of R98, in order. -/
def State.earlyRefusal (s : State) (p : PortNo) (m : Message) : Option Reason :=
  let l := s.ports[p].lpi
  let g := s.lsv.groups[m.group]
  if l.admin = .drain then some .portShut
  else if !l.format.bearer m.channel then some .badChan
  else if kindOf m.lkind.val = none then some .badKind
  else if scopeReaches s.scope p m.group then some .scopeBusy
  else if (s.lsv.entry p m.channel).isSome then some .inUse
  else if !g.enabled then some .badGroup
  else if !g.members.getLsbD p.val && !g.admitNonMember then some .notMember
  else none

/-! ### Serving a message -/

/-- What the handling of a message leaves: the tables with the unsolicited replies, the port's meter, the solicited reply,
and the reason if it is a REFUSE. -/
structure Served where
  op : TableOp
  meter : Cmt
  reply : Reply
  reason : Option Reason
  deriving DecidableEq, Repr

/-- A solicited reply carries the message's tag and channel (R87). -/
def Message.answer (m : Message) (kind : ReplyKind) (second : Fin 4) (third : Fin 128) : Reply :=
  { kind := kind, tag := m.tag, second := second, channel := m.channel, third := third }

/-- The tables as they stand. -/
def Lsv.unchanged (v : Lsv) : TableOp := { lsv := v, out := [], tapEnded := false }

/-- A refusal leaves the tables as they were (R93). -/
def State.refuse (s : State) (meter : Cmt) (m : Message) (reason : Reason) : Served :=
  { op := s.lsv.unchanged, meter := meter, reply := m.answer .refuse m.lkind reason.toCode, reason := some reason }

/-- Steps 6 to 8 of R98 for a CLAIM of lease kind `k`. -/
def State.claimMetered (s : State) (p : PortNo) (m : Message) (k : LeaseKind) : Served :=
  let x := s.ports[p]
  let colour := x.cmt.colour
  let meter := x.cmt.take colour
  if colour = .red then s.refuse meter m .rate
  else
    match s.lsv.lowestFree with
    | none => s.refuse meter m .tableFull
    | some n =>
      match s.lsv.admitLease s.scope x.lpi.faulty (x.cmt.marginFor colour) (claimRecord p m k) n with
      | .refused reason => s.refuse meter m reason
      | .made op kind slot => { op := op, meter := meter, reply := m.answer kind k.field slot, reason := none }

/-- A served CLAIM (R98). A CLAIM refused at steps 1 to 5 takes no token (R96, R98); R109 says "token already taken" of the
INUSE after a LEASE_CREATE, and the model takes none there either (log 24). -/
def State.serveClaim (s : State) (p : PortNo) (m : Message) : Served :=
  let meter := s.ports[p].cmt
  match s.earlyRefusal p m, kindOf m.lkind.val with
  | some reason, _ => s.refuse meter m reason
  | none, some k => s.claimMetered p m k
  | none, none => s.refuse meter m .badKind

/-- A served RELEASE (R104). -/
def State.serveRelease (s : State) (p : PortNo) (m : Message) : Served :=
  let meter := s.ports[p].cmt
  match s.lsv.entry p m.channel with
  | none => s.refuse meter m .noLease
  | some l =>
    let r := s.lsv.leases[l]
    match r.origin with
    | .host => s.refuse meter m .hostOwned
    | .signaled =>
      { op := s.lsv.retire s.scope .lineRelease false l, meter := meter, reply := m.answer .released r.kind.field 0,
        reason := none }

/-- The slot a STATUS reports (R105, R106): the lease's own or, for a listener, the talker's, while ACTIVE. -/
def Lsv.shownSlot (v : Lsv) (r : Lease) : Fin 128 :=
  if r.state = .active then (if r.kind = .listen then v.talkerSlot r.group else r.slot).getD 0 else 0

/-- A served REFRESH (R105). -/
def State.serveRefresh (s : State) (p : PortNo) (m : Message) : Served :=
  let meter := s.ports[p].cmt
  match s.lsv.entry p m.channel with
  | none => s.refuse meter m .noLease
  | some l =>
    let r := s.lsv.leases[l]
    match r.origin with
    | .host => s.refuse meter m .hostOwned
    | .signaled =>
      { op := (s.lsv.setLease l { r with idle := 0, tag := some m.tag }).unchanged, meter := meter
        reply := m.answer .status r.state.field (s.lsv.shownSlot r), reason := none }

/-- A served QUERY (R106). -/
def State.serveQuery (s : State) (p : PortNo) (m : Message) : Served :=
  let meter := s.ports[p].cmt
  match s.lsv.entry p m.channel with
  | none => { op := s.lsv.unchanged, meter := meter, reply := m.answer .status 0 0, reason := none }
  | some l =>
    let r := s.lsv.leases[l]
    { op := s.lsv.unchanged, meter := meter, reply := m.answer .status r.state.field (s.lsv.shownSlot r), reason := none }

/-- The handling of a message by its kind (R93). -/
def State.serveMessage (s : State) (p : PortNo) (m : Message) : Served :=
  match m.kind.val with
  | 1 => s.serveClaim p m
  | 2 => s.serveRelease p m
  | 3 => s.serveRefresh p m
  | 4 => s.serveQuery p m
  | _ => s.refuse s.ports[p].cmt m .badKind

/-- The counters a REFUSE raises (R83, R89). -/
def Counters.addRefusal (k : Counters) (reason : Reason) : Counters :=
  { k with
    refused := saturate k.refused
    rate := if reason = .rate then saturate k.rate else k.rate
    tableFull := if reason = .tableFull then saturate k.tableFull else k.tableFull }

/-- The solicited reply at the tail, with the counters of a REFUSE (R83). -/
def Cch.answered (c : Cch) (reply : Reply) (reason : Option Reason) : Cch :=
  match reason with
  | none => c.append reply
  | some x => { c.append reply with counters := c.counters.addRefusal x }

/-- A placed REFUSE updates the refusal record and sets REFUSE (R165). -/
def State.noteRefusal (s : State) (p : PortNo) (m : Message) : Option Reason → State
  | none => s
  | some x =>
    { s with
      ntu := s.ntu.recordRefusal
        { port := p, channel := m.channel, lkind := m.lkind, tag := m.tag, reason := x } }.raise .refuse

/-- A serving consumes the message in buffer A; buffer B moves to A (R79, R93). -/
def Cch.consume (c : Cch) : Cch := { c with bufA := c.bufB, bufB := none }

/-- The serving of message `m` of port `p`, the CPR's pointer at `p` (R92, R93). -/
def State.serve (s : State) (p : PortNo) (m : Message) : State :=
  let d := s.serveMessage p m
  let x := s.ports[p]
  let t := ({ s.setPort p { x with cch := x.cch.consume, cmt := d.meter } with
    cpr := { s.cpr with pointer := p } }).afterTables (some p) d.op
  (t.setCch p (t.ports[p].cch.answered d.reply d.reason)).noteRefusal p m d.reason

/-- The order in which the ports are looked at: those after the pointer, the pointer's own last (R92). -/
def PortNo.after (p : PortNo) : List PortNo := [p + 1, p + 2, p + 3, p]

/-- The port a serving serves: the first eligible one (R92). -/
def State.nextPort (s : State) : Option PortNo := (PortNo.after s.cpr.pointer).find? fun p => s.ports[p].eligible

/-- The request is taken: a port is served, or the operation lapses (R91). -/
def State.serveNext (s : State) : State :=
  match s.nextPort with
  | none => s
  | some p =>
    match s.ports[p].cch.bufA with
    | none => s
    | some m => s.serve p m

/-- The CPR returns to IDLE, and to REQUESTED at once if a port is eligible (R91). -/
def State.afterServing (s : State) : State := { s with cpr := { s.cpr with requested := false } }.pollServing

/-- SERVING, while a serving request is outstanding. -/
def servingStep (s : State) : State :=
  if !s.pins.reset && s.cpr.requested then s.serveNext.afterServing else s

/-- SERVING (R91 to R93). -/
def execServing (s : State) : Host.Outcome State Fault Refusal := .next (servingStep s)

end Sys2Proof.Machine
end

