-- ==== Sys2Proof/Machine/Channel.lean ====
section
/-! DEFINITION. The Claim Channel (chapter 4): assembly of messages, the receive buffers, and the transmitter. -/

namespace Sys2Proof.Machine

/-! ### Assembly and the receive buffers -/

/-- A header byte in GATHER counts one FRAGMENT (R76). -/
def Counters.addFragment (k : Counters) : Counters := { k with fragment := saturate k.fragment }

/-- A message that fails the check counts one CHECK_ERR (R77). -/
def Counters.addCheckErr (k : Counters) : Counters := { k with checkErr := saturate k.checkErr }

/-- A checked message that finds both buffers full counts one OVERRUN (R77). -/
def Counters.addOverrun (k : Counters) : Counters := { k with overrun := saturate k.overrun }

/-- A header byte starts a message; in GATHER it ends the one in progress (R75, R76). -/
def Cch.header (c : Cch) (b : Byte) : Cch :=
  match c.assembly with
  | .hunt => { c with assembly := .gather1 b }
  | _ => { c with assembly := .gather1 b, counters := c.counters.addFragment }

/-- A checked message enters buffer A, then buffer B, or is discarded as an OVERRUN (R77). -/
def Cch.store (c : Cch) (m : Message) : Cch :=
  if c.bufA = none then { c with bufA := some m }
  else if c.bufB = none then { c with bufB := some m }
  else { c with counters := c.counters.addOverrun }

/-- A complete message (R77): the check, and assembly back to HUNT. -/
def Cch.completeMessage (c : Cch) (b1 b2 b3 b4 : Byte) : Cch :=
  let h := { c with assembly := .hunt }
  if checkPasses b1 b2 b3 b4 then h.store (messageOf b1 b2 b3 b4) else { h with counters := h.counters.addCheckErr }

/-- A continuation byte is passed over in HUNT and appended in GATHER (R75 to R77). -/
def Cch.continuation (c : Cch) (b : Byte) : Cch :=
  match c.assembly with
  | .hunt => c
  | .gather1 b1 => { c with assembly := .gather2 b1 b }
  | .gather2 b1 b2 => { c with assembly := .gather3 b1 b2 b }
  | .gather3 b1 b2 b3 => c.completeMessage b1 b2 b3 b

/-- A received byte (R75 to R77). -/
def Cch.receive (c : Cch) (b : Byte) : Cch := if isHeader b then c.header b else c.continuation b

/-- Port `p`'s Claim Channel has its channel on the line: the port is OPEN or DRAIN, and the format in force in the frame is
its own. In the rest of a frame in which a PORT_SET reformats and opens the port it has none, so that no message and no reply
begins on the old channel and goes on on the new one (R71, R78, R114; log 25). -/
def State.signals (s : State) (p : PortNo) : Bool :=
  s.ports[p].lpi.admin != .closed && s.psw.formats[p] == s.ports[p].lpi.format

/-- The port assembles what it receives (R71, R72); while RESET is asserted assembly is held in HUNT (R90). -/
def State.assembles (s : State) (p : PortNo) : Bool := !s.pins.reset && s.ports[p].lpi.answers && s.signals p

/-- Port `p`'s Claim Channel takes a byte, if the port assembles. -/
def State.receiveByte (s : State) (p : PortNo) (b : Byte) : State :=
  if s.assembles p then s.setCch p (s.ports[p].cch.receive b) else s

/-- Assembly is in HUNT. -/
def Assembly.hunting : Assembly → Bool
  | .hunt => true | .gather1 _ => false | .gather2 _ _ => false | .gather3 _ _ _ => false

/-- Assembly holds three bytes, so that the next continuation byte completes the message. -/
def Assembly.full : Assembly → Bool
  | .hunt => false | .gather1 _ => false | .gather2 _ _ => false | .gather3 _ _ _ => true

/-- A header byte arrives in HUNT. -/
def headerInHuntStep (p : PortNo) (b : Byte) (s : State) : State :=
  if isHeader b && s.ports[p].cch.assembly.hunting then s.receiveByte p b else s

/-- HEADER_BYTE_IN_HUNT (R75). -/
def execHeaderByteInHunt (p : PortNo) (b : Byte) (s : State) : Host.Outcome State Fault Refusal :=
  .next (headerInHuntStep p b s)

/-- A header byte arrives in GATHER. -/
def headerInGatherStep (p : PortNo) (b : Byte) (s : State) : State :=
  if isHeader b && !s.ports[p].cch.assembly.hunting then s.receiveByte p b else s

/-- HEADER_BYTE_IN_GATHER (R76). -/
def execHeaderByteInGather (p : PortNo) (b : Byte) (s : State) : Host.Outcome State Fault Refusal :=
  .next (headerInGatherStep p b s)

/-- A continuation byte arrives in GATHER and is not the fourth. -/
def continuationInGatherStep (p : PortNo) (b : Byte) (s : State) : State :=
  let a := s.ports[p].cch.assembly
  if !isHeader b && !a.hunting && !a.full then s.receiveByte p b else s

/-- CONTINUATION_BYTE_IN_GATHER (R76). -/
def execContinuationByteInGather (p : PortNo) (b : Byte) (s : State) : Host.Outcome State Fault Refusal :=
  .next (continuationInGatherStep p b s)

/-- The fourth byte of a message arrives; a port that becomes eligible makes a serving request (R91). -/
def messageCompleteStep (p : PortNo) (b : Byte) (s : State) : State :=
  if !isHeader b && s.ports[p].cch.assembly.full && s.assembles p then (s.receiveByte p b).pollServing else s

/-- MESSAGE_COMPLETE (R77). -/
def execMessageComplete (p : PortNo) (b : Byte) (s : State) : Host.Outcome State Fault Refusal :=
  .next (messageCompleteStep p b s)

/-! ### The transmitter (R82) -/

/-- The byte the transmitter gives for this frame. -/
def Cch.txByte (c : Cch) : Byte :=
  match c.queue with
  | [] => 0
  | r :: _ => r.byte c.sent

/-- The transmitter after it has given a byte: with the fourth, the reply leaves the queue. -/
def Cch.advance (c : Cch) : Cch :=
  match c.queue with
  | [] => c
  | _ :: rest => if c.sent = 3 then { c with queue := rest, sent := 0 } else { c with sent := c.sent + 1 }

/-- The signalling byte port `p` transmits (R72): 00h while CLOSED, and until its channel is on the line. -/
def State.signallingByte (s : State) (p : PortNo) : Byte := if s.signals p then s.ports[p].cch.txByte else 0

/-- The state after port `p`'s signalling byte has been transmitted. -/
def State.transmitted (s : State) (p : PortNo) : State := if s.signals p then s.setCch p s.ports[p].cch.advance else s

/-- Three bytes of port `p`'s head reply have been sent, so that this frame sends the fourth. -/
def State.fourthByteNext (s : State) (p : PortNo) : Bool :=
  s.signals p && !s.ports[p].cch.queue.isEmpty && s.ports[p].cch.sent == 3

/-- Replace the byte a port's line carries on one channel. -/
def Psw.sendByte (w : Psw) (p : PortNo) (c : ChanNo) (b : Byte) : Psw :=
  { w with lineTx := upd w.lineTx p (upd w.lineTx[p] c b) }

/-- The frame that sends the fourth byte of the head reply (log 8). -/
def replySentStep (p : PortNo) (s : State) : State :=
  if !s.pins.reset && s.fourthByteNext p then
    { s.transmitted p with psw := s.psw.sendByte p s.psw.formats[p].signalling (s.signallingByte p) }.pollServing
  else s

/-- REPLY_SENT (R82). -/
def execReplySent (p : PortNo) (s : State) : Host.Outcome State Fault Refusal := .next (replySentStep p s)

end Sys2Proof.Machine
end

