-- ==== Sys2Proof/Machine/Faults.lean ====
section
/-! DEFINITION. The condition machine's events (chapter 6): a change of the fault input, the hold expiry and the recovery
expiry. -/

namespace Sys2Proof.Machine

/-- The fault input of port `p` can take the level (R115): while the port has no expected pulse position the input is
asserted, and cannot clear. -/
def State.canTakeLevel (s : State) (p : PortNo) (level : Bool) : Bool :=
  !s.pins.reset && (level || s.ports[p].lpi.expected.isSome)

/-- The fault input takes a level, if it can (R115). -/
def faultLevelStep (p : PortNo) (level : Bool) (s : State) : State :=
  if s.canTakeLevel p level then s.faultInput p level else s

/-- FAULT_ASSERTED (R115, R116, R119). -/
def execFaultAsserted (p : PortNo) (s : State) : Host.Outcome State Fault Refusal := .next (faultLevelStep p true s)

/-- FAULT_CLEARED (R115, R116, R118, R120). -/
def execFaultCleared (p : PortNo) (s : State) : Host.Outcome State Fault Refusal := .next (faultLevelStep p false s)

/-- The hold timer of a PENDING port has run out (R116). -/
def Lpi.holdOut (l : Lpi) : Bool := l.condition == .pending && l.holdTimer == some 0

/-- The hold expiry of a PENDING port, whose entry to FAULTED the LSV takes (R117). -/
def holdExpiryStep (p : PortNo) (s : State) : State :=
  if !s.pins.reset && s.ports[p].lpi.holdOut then s.enterFaulted p else s

/-- HOLD_EXPIRY (R117). -/
def execHoldExpiry (p : PortNo) (s : State) : Host.Outcome State Fault Refusal := .next (holdExpiryStep p s)

/-- The recovery timer of a RECOVERING port has run out (R118). -/
def Lpi.recoveryOut (l : Lpi) : Bool := l.condition == .recovering && l.recoveryTimer == some 0

/-- The recovery expiry of a RECOVERING port (R120). -/
def recoveryExpiryStep (p : PortNo) (s : State) : State :=
  if !s.pins.reset && s.ports[p].lpi.recoveryOut then s.recover p else s

/-- RECOVERY_EXPIRY (R120). -/
def execRecoveryExpiry (p : PortNo) (s : State) : Host.Outcome State Fault Refusal := .next (recoveryExpiryStep p s)

end Sys2Proof.Machine
end

