-- ==== Sys2Proof/Machine/GroupCommands.lean ====
section
/-! DEFINITION. Host commands on talk groups (chapter 3): GROUP_READ, GROUP_WRITE, LISTENER_READ. -/

namespace Sys2Proof.Machine

/-- Listeners of a group in a given state (R66). -/
def Lsv.listenersIn (v : Lsv) (g : GroupNo) (st : LeaseState) : Nat :=
  (v.groups[g].listeners.filter fun l => v.leases[l].state == st).length

/-- RES3's count: the ACTIVE listeners while the group has a talker, the WAITING ones while it has none (12 §12.5). -/
def Lsv.listenerCount (v : Lsv) (g : GroupNo) : Nat :=
  if v.groups[g].talker.isSome then v.listenersIn g .active else v.listenersIn g .waiting

/-- GROUP_READ's operation (R66). -/
def runGroupRead (s : State) : State :=
  match below 32 (s.arg 0).toNat with
  | none => s.completeBare .badArg
  | some g =>
    let r := s.lsv.groups[g]
    s.complete .ok (word (r.expiryLimit * 256 + (s.lsv.liveInGroup g).length))
      (word (r.listeners.length * 2048 + r.listenerCap * 64 + r.members.toNat * 4 + flag r.admitNonMember * 2 + flag r.enabled))
      (word (orNone r.talker 0xFF * 256 + orNone (s.lsv.talkerSlot g) 0xFF))
      (word (s.lsv.listenerCount g * 256 + r.mask.toNat))

/-- GROUP_READ (R66). -/
def execGroupRead (ph : Phase) (s : State) : Host.Outcome State Fault Refusal :=
  .next (hostCommand .groupRead ph runGroupRead s)

/-- The configuration of a group replaced, its talker and listeners kept (R67). -/
def Group.configured (r : Group) (enabled nonMember : Bool) (members : BitVec 4) (limit cap : Nat) (mask : NoticeSet) : Group :=
  { r with enabled := enabled, members := members, admitNonMember := nonMember, expiryLimit := limit, listenerCap := cap,
           mask := mask }

/-- GROUP_WRITE's operation (R67). -/
def runGroupWrite (s : State) : State :=
  let cap := hi (s.arg 1)
  let mask := lo (s.arg 1)
  let enabled := (s.arg 2).getLsbD 0
  match below 32 (hi (s.arg 0)) with
  | none => s.completeBare .badArg
  | some g =>
    if 16 < cap ∨ 127 < mask then s.completeBare .badArg
    else if enabled = false ∧ s.lsv.liveInGroup g ≠ [] then s.completeBare .groupBusy
    else
      { s with
        lsv := s.lsv.setGroup g
          (s.lsv.groups[g].configured enabled ((s.arg 2).getLsbD 1) ((s.arg 2).extractLsb' 8 4) (lo (s.arg 0)) cap
            (BitVec.ofNat 7 mask)) }.completeBare .ok

/-- GROUP_WRITE (R67). -/
def execGroupWrite (ph : Phase) (s : State) : Host.Outcome State Fault Refusal :=
  .next (hostCommand .groupWrite ph runGroupWrite s)

/-- LISTENER_READ's operation (R69). -/
def runListenerRead (s : State) : State :=
  match below 32 (s.arg 0).toNat, below 16 (s.arg 1).toNat with
  | some g, some i =>
    match s.lsv.groups[g].listeners[i.val]? with
    | none => s.completeBare .none
    | some l => s.complete .ok (word l.val) s.lsv.leases[l].word0 0 0
  | _, _ => s.completeBare .badArg

/-- LISTENER_READ (R69). -/
def execListenerRead (ph : Phase) (s : State) : Host.Outcome State Fault Refusal :=
  .next (hostCommand .listenerRead ph runListenerRead s)

end Sys2Proof.Machine
end

