-- ==== Sys2Proof/Machine/LeaseCommands.lean ====
section
/-! DEFINITION. Host commands on leases: LEASE_READ, LEASE_FIND, LEASE_CREATE, LEASE_MODIFY, LEASE_RETIRE, LEASE_MOVE and
NOTICE_TAKE. Each `run…` is the command's one table operation; its `exec…` adds the taking of the command (R169). -/

namespace Sys2Proof.Machine

/-! ### LEASE_READ -/

/-- LEASE_READ's operation (R23). -/
def runLeaseRead (s : State) : State :=
  match below 128 (s.arg 0).toNat with
  | none => s.completeBare .badArg
  | some l =>
    let r := s.lsv.leases[l]
    s.complete .ok r.word0 r.word1 r.word2 r.word3

/-- LEASE_READ (R23). -/
def execLeaseRead (ph : Phase) (s : State) : Host.Outcome State Fault Refusal :=
  .next (hostCommand .leaseRead ph runLeaseRead s)

/-! ### LEASE_FIND -/

/-- LEASE_FIND's operation (R14). -/
def runLeaseFind (s : State) : State :=
  match below 4 (hi (s.arg 0)), below 32 (lo (s.arg 0)) with
  | some p, some c =>
    match s.lsv.entry p c with
    | some l => s.complete .ok (word l.val) 0 0 0
    | none => s.completeBare .none
  | _, _ => s.completeBare .badArg

/-- LEASE_FIND (R14). -/
def execLeaseFind (ph : Phase) (s : State) : Host.Outcome State Fault Refusal :=
  .next (hostCommand .leaseFind ph runLeaseFind s)

/-! ### Slot arguments -/

/-- A slot argument: a slot number or POOL (R24, R41, R189). -/
inductive SlotArg where
  | pool
  | named (sl : SlotNo)
  deriving DecidableEq, Repr

/-- A slot argument's value: 0..127 is a slot, FFh is POOL, anything else neither (R189). -/
def slotArg (x : Nat) : Option SlotArg := if x = 0xFF then some .pool else (below 128 x).map .named

/-- Why a slot cannot be taken, in the order of R24 rows 8 to 11 and R41 rows 4 to 7. -/
def Lsv.slotRefusal (v : Lsv) (a : SlotArg) : Option ResultCode :=
  match a with
  | .pool => if v.freeList = [] then some .inUse else none
  | .named sl =>
    if v.tapTarget sl then some .tapBusy
    else
      match v.slots[sl].state with
      | .quarantine => some .slotGuard
      | .held => some .inUse
      | .free => none
      | .reserved => none

/-- The slot a slot argument stands for: POOL is the head of the free list (R25, R42). -/
def Lsv.chosenSlot (v : Lsv) (a : SlotArg) : Option SlotNo :=
  match a with
  | .pool => v.freeList.head?
  | .named sl => some sl

/-! ### LEASE_CREATE -/

/-- The arguments of LEASE_CREATE that have passed row 3 of R24. -/
structure CreateArgs where
  kind : LeaseKind
  port : PortNo
  channel : ChanNo
  group : GroupNo
  cls : ClassNo
  slot : Option SlotArg
  pinned : Bool
  code : Option Byte
  deriving DecidableEq, Repr

/-- Row 3 of R24: every field in range, the channel a bearer channel of the port's present format; a LISTEN lease's slot
argument is ignored. -/
def createArgs (a0 a1 a2 a3 : Word) (p : PortNo) (f : Format) : Option CreateArgs :=
  match below 32 (lo a0), kindOf (hi a1), below 32 (lo a1), below 4 (hi a2) with
  | some c, some k, some g, some q =>
    if f.bearer c then
      let made := fun sl : Option SlotArg =>
        ({ kind := k, port := p, channel := c, group := g, cls := q, slot := sl, pinned := a3.getLsbD 15,
           code := if a3.getLsbD 8 then some (byteOf (lo a3)) else none } : CreateArgs)
      if k = .listen then some (made none)
      else (slotArg (lo a2)).map fun sl => made (some sl)
    else none
  | _, _, _, _ => none

/-- Rows 6 and 7 of R24: the group's side. -/
def Lsv.groupRefusal (v : Lsv) (a : CreateArgs) : Option ResultCode :=
  let g := v.groups[a.group]
  match a.kind with
  | .duplex => none
  | .talk => if g.talker.isSome then some .talkBusy else none
  | .listen => if g.listenerCap ≤ g.listeners.length then some .groupFull else none

/-- Rows 4 to 11 of R24. -/
def Lsv.createRefusal (v : Lsv) (a : CreateArgs) : Option ResultCode :=
  if (v.entry a.port a.channel).isSome then some .inUse
  else if v.lowestFree = none then some .tableFull
  else (v.groupRefusal a).or (a.slot.bind v.slotRefusal)

/-- The record of a HOST lease (R25). -/
def CreateArgs.record (a : CreateArgs) : Lease :=
  { Lease.cleared with
    kind := a.kind, origin := .host, port := a.port, channel := a.channel, group := a.group, cls := a.cls,
    pinned := a.pinned, code := a.code }

/-- The slot of a HOST lease (R25). -/
def Lsv.createSlot (v : Lsv) (a : CreateArgs) : NewSlot :=
  match a.slot.bind v.chosenSlot with
  | none => .absent
  | some sl => .taken sl

/-- A LEASE_CREATE that passes every check (R25). -/
def State.createHostLease (s : State) (a : CreateArgs) (n : LeaseNo) : State :=
  let made := s.lsv.create s.scope s.ports[a.port].lpi.faulty (s.lsv.createSlot a) a.record n
  let t := s.afterTables none { lsv := made.1, out := made.2, tapEnded := false }
  let r := made.1.leases[n]
  t.complete .ok (word n.val) (word r.state.toCode) (word (orNone r.slot 0xFFFF)) 0

/-- LEASE_CREATE's operation (R24, R25). -/
def runLeaseCreate (s : State) : State :=
  match below 4 (hi (s.arg 0)) with
  | none => s.completeBare .badArg
  | some p =>
    if s.ports[p].lpi.admin = .closed then s.completeBare .portClosed
    else
      match createArgs (s.arg 0) (s.arg 1) (s.arg 2) (s.arg 3) p s.ports[p].lpi.format with
      | none => s.completeBare .badArg
      | some a =>
        match s.lsv.createRefusal a, s.lsv.lowestFree with
        | none, some n => s.createHostLease a n
        | some code, _ => s.completeBare code
        | none, none => s.completeBare .tableFull

/-- LEASE_CREATE (R24, R25). -/
def execLeaseCreate (ph : Phase) (s : State) : Host.Outcome State Fault Refusal :=
  .next (hostCommand .leaseCreate ph runLeaseCreate s)

/-! ### LEASE_MODIFY -/

/-- The record after a LEASE_MODIFY (R6, R26): a pinned flag that goes from yes to no restarts the idle count. -/
def Lease.modified (r : Lease) (q : ClassNo) (pinned : Bool) (code : Option Byte) : Lease :=
  { r with cls := q, pinned := pinned, code := code, idle := if r.pinned && !pinned then 0 else r.idle }

/-- LEASE_MODIFY's operation (R26; order of the checks log 16). -/
def runLeaseModify (s : State) : State :=
  match below 128 (s.arg 0).toNat with
  | none => s.completeBare .badArg
  | some l =>
    let r := s.lsv.leases[l]
    if !r.live then s.completeBare .notLive
    else
      match below 4 (hi (s.arg 1)), below 2 (hi (s.arg 2)) with
      | some q, some action =>
        let code := if action = 1 then some (byteOf (lo (s.arg 2))) else none
        { s with lsv := s.lsv.setLease l (r.modified q ((s.arg 1).getLsbD 0) code) }.completeBare .ok
      | _, _ => s.completeBare .badArg

/-- LEASE_MODIFY (R26). -/
def execLeaseModify (ph : Phase) (s : State) : Host.Outcome State Fault Refusal :=
  .next (hostCommand .leaseModify ph runLeaseModify s)

/-! ### LEASE_RETIRE -/

/-- A purge (R27): the notice set is discarded, the number leaves the attention list wherever it stands, and the record
becomes FREE. -/
def Lsv.purge (v : Lsv) (l : LeaseNo) : Lsv :=
  { v.setLease l Lease.cleared with attention := v.attention.erase l }

/-- The result of LEASE_RETIRE: the state in which the command left the record (R27). -/
def State.completeRetire (s : State) (code : ResultCode) (l : LeaseNo) : State :=
  s.complete code (word s.lsv.leases[l].state.toCode) 0 0 0

/-- Discard the notices of a record when purge is given. -/
def State.purgeIf (s : State) (purge : Bool) (l : LeaseNo) : State :=
  if purge then { s with lsv := s.lsv.purge l } else s

/-- LEASE_RETIRE's operation (R27). -/
def runLeaseRetire (s : State) : State :=
  match below 128 (s.arg 0).toNat with
  | none => s.completeBare .badArg
  | some l =>
    let purge := (s.arg 1).getLsbD 0
    match s.lsv.leases[l].state with
    | .free => s.completeRetire .notLive l
    | .retired => if purge then (s.purgeIf true l).completeRetire .ok l else s.completeRetire .notLive l
    | .active | .waiting | .conditioned =>
      ((s.afterTables none (s.lsv.retire s.scope .host false l)).purgeIf purge l).completeRetire .ok l

/-- LEASE_RETIRE (R27). -/
def execLeaseRetire (ph : Phase) (s : State) : Host.Outcome State Fault Refusal :=
  .next (hostCommand .leaseRetire ph runLeaseRetire s)

/-! ### NOTICE_TAKE -/

/-- The record after its notices are taken (R11, R159): a RETIRED record becomes FREE, a live lease keeps its state. -/
def Lease.noticesTaken (r : Lease) : Lease := if r.state = .retired then Lease.cleared else { r with notices := 0 }

/-- NOTICE_TAKE's operation (R159). -/
def runNoticeTake (s : State) : State :=
  match s.lsv.attention with
  | [] => s.completeBare .empty
  | l :: rest =>
    let r := s.lsv.leases[l]
    { s with lsv := { s.lsv.setLease l r.noticesTaken with attention := rest } }.complete .ok
      r.word0 r.word1 (r.noticeWord2 l) r.word3

/-- NOTICE_TAKE (R159). -/
def execNoticeTake (ph : Phase) (s : State) : Host.Outcome State Fault Refusal :=
  .next (hostCommand .noticeTake ph runNoticeTake s)

/-! ### LEASE_MOVE -/

/-- The tables after a move (R42): the new slot is taken first, then the old one is given up by its home. -/
def Lsv.moveLease (v : Lsv) (l : LeaseNo) (sl : SlotNo) : Lsv :=
  let r := v.leases[l]
  ((v.takeSlot sl l).setLease l { r with slot := some sl }).leaveSlot false r

/-- The STATUS a moved SIGNALED lease is sent (R42): the new slot while ACTIVE, otherwise 0. It carries the state in place of
the lease kind (R86, log 23). -/
def Lease.moveReply (r : Lease) (sl : SlotNo) : List Unsolicited :=
  match r.origin with
  | .signaled => [r.statusReply (if r.state = .active then sl else 0)]
  | .host => []

/-- LEASE_MOVE's operation (R41, R42). -/
def runLeaseMove (s : State) : State :=
  match below 128 (s.arg 0).toNat, slotArg (s.arg 1).toNat with
  | some l, some a =>
    let r := s.lsv.leases[l]
    if !r.live then s.completeBare .notLive
    else if r.kind = .listen then s.completeBare .badArg
    else
      match s.lsv.slotRefusal a, s.lsv.chosenSlot a with
      | none, some sl =>
        (s.afterTables none { lsv := s.lsv.moveLease l sl, out := r.moveReply sl, tapEnded := false }).complete .ok
          (word sl.val) 0 0 0
      | some code, _ => s.completeBare code
      | none, none => s.completeBare .inUse
  | _, _ => s.completeBare .badArg

/-- LEASE_MOVE (R41, R42). -/
def execLeaseMove (ph : Phase) (s : State) : Host.Outcome State Fault Refusal :=
  .next (hostCommand .leaseMove ph runLeaseMove s)

end Sys2Proof.Machine
end

