-- ==== Sys2Proof/Machine/Pins.lean ====
section
/-! DEFINITION. The RESET and HOLD pins (R152, R183, and the reset rule of each chapter). -/

namespace Sys2Proof.Machine

/-- The machine while RESET is asserted (R29, R51, R70, R90, R110, R128, R143, R156, R168, R183): every block at its reset
values. The level of HOLD is an input, and the sample store is not cleared (R136, log 15). -/
def State.held (s : State) : State :=
  { State.reset with
    psw := { Psw.initial with
      lineStore := s.psw.lineStore, hwStore := s.psw.hwStore, lineRx := s.psw.lineRx, hwRx := s.psw.hwRx }
    pins := { s.pins with reset := true }
    pending := s.pending }

/-- RESET_ASSERTED (R183). -/
def execResetAsserted (s : State) : Host.Outcome State Fault Refusal := .next s.held

/-- RESET_RELEASED (R183): the reset values stand, and the part runs from them. -/
def execResetReleased (s : State) : Host.Outcome State Fault Refusal :=
  .next { s with pins := { s.pins with reset := false } }

/-- HOLD_ASSERTED (R152): counting and the sweep stop. -/
def execHoldAsserted (s : State) : Host.Outcome State Fault Refusal :=
  .next { s with pins := { s.pins with hold := true } }

/-- A sweep in progress submits its next step again (R152). -/
def Swt.resubmit (t : Swt) : Swt := if t.sweep = .idle then t else { t with request := true }

/-- HOLD_RELEASED (R152). While RESET is asserted no sweep is in progress. -/
def execHoldReleased (s : State) : Host.Outcome State Fault Refusal :=
  .next { s with pins := { s.pins with hold := false }, swt := s.swt.resubmit }

end Sys2Proof.Machine
end

