-- ==== Sys2Proof/Machine/PortCommands.lean ====
section
/-! DEFINITION. Host commands on ports, meters and counters: PORT_READ, PORT_SET (chapter 6), METER_READ, METER_SET
(chapter 5), COUNTERS_READ (chapter 9). -/

namespace Sys2Proof.Machine

/-! ### PORT_READ -/

/-- Frames remaining on the hold timer in PENDING or the recovery timer in RECOVERING, 7FFh in the others (R127). -/
def Lpi.framesRemaining (l : Lpi) : Nat :=
  match l.condition with
  | .pending => l.holdTimer.getD 0x7FF
  | .recovering => l.recoveryTimer.getD 0x7FF
  | .normal => 0x7FF
  | .faulted => 0x7FF

/-- PORT_READ's operation (R127). -/
def runPortRead (s : State) : State :=
  match below 4 (s.arg 0).toNat with
  | none => s.completeBare .badArg
  | some p =>
    let l := s.ports[p].lpi
    s.complete .ok
      (word (l.countdown * 256 + l.admin.toCode * 64 + l.format.toCode * 32 + l.condition.toCode * 8 + flag l.lost * 4
        + flag l.faultIn * 2))
      (word (l.code.toNat * 256 + l.faultHold)) (word (l.recoveryTime * 256 + l.releaseTimeout))
      (word ((s.lsv.liveOnPort p).length * 2048 + l.framesRemaining))

/-- PORT_READ (R127). -/
def execPortRead (ph : Phase) (s : State) : Host.Outcome State Fault Refusal :=
  .next (hostCommand .portRead ph runPortRead s)

/-! ### PORT_SET -/

/-- The six values of PORT_SET that have passed row 1 of R126. -/
structure PortArgs where
  admin : Admin
  format : Format
  code : Byte
  faultHold : Nat
  recoveryTime : Nat
  releaseTimeout : Nat
  deriving DecidableEq, Repr

/-- Row 1 of R126; a byte field cannot hold more than 255 (12 §12.4). -/
def portArgs (a0 a1 a2 a3 : Word) : Option PortArgs :=
  match adminOf (lo a0), formatOf (hi a1) with
  | some ad, some f =>
    if hi a2 = 0 then none
    else some { admin := ad, format := f, code := byteOf (lo a1), faultHold := hi a2, recoveryTime := lo a2,
                releaseTimeout := lo a3 }
  | _, _ => none

/-- The six values written (R126). -/
def Lpi.configured (l : Lpi) (a : PortArgs) : Lpi :=
  { l with admin := a.admin, format := a.format, code := a.code, faultHold := a.faultHold, recoveryTime := a.recoveryTime,
           releaseTimeout := a.releaseTimeout }

/-- A port leaving CLOSED: the fault input is watched, and an asserted input is a fault asserted event (R112, R115). -/
def Lpi.opens (l : Lpi) : Lpi := if l.faultIn then l.faultEvent else l

/-- A port becoming CLOSED: condition NORMAL, timers discarded, countdown 0, LOST no (R112). -/
def Lpi.closes (l : Lpi) : Lpi :=
  { l with condition := .normal, holdTimer := none, recoveryTimer := none, countdown := 0, lost := false }

/-- The port after an accepted PORT_SET (R112, R126). -/
def Port.configured (x : Port) (a : PortArgs) : Port :=
  let l := x.lpi.configured a
  if x.lpi.admin = .closed ∧ a.admin ≠ .closed then
    { x with lpi := l.opens, cch := { x.cch with assembly := .hunt } }
  else if x.lpi.admin ≠ .closed ∧ a.admin = .closed then { x with lpi := l.closes, cch := x.cch.emptied }
  else { x with lpi := l }

/-- PORT_SET's operation (R126). -/
def runPortSet (s : State) : State :=
  match below 4 (hi (s.arg 0)), portArgs (s.arg 0) (s.arg 1) (s.arg 2) (s.arg 3) with
  | some p, some a =>
    let x := s.ports[p]
    if a.format ≠ x.lpi.format ∧ x.lpi.admin ≠ .closed then s.completeBare .portBusy
    else if a.admin = .closed ∧ x.lpi.admin ≠ .closed ∧ s.lsv.liveOnPort p ≠ [] then s.completeBare .portBusy
    else (s.setPort p (x.configured a)).completeBare .ok
  | _, _ => s.completeBare .badArg

/-- PORT_SET (R126). -/
def execPortSet (ph : Phase) (s : State) : Host.Outcome State Fault Refusal :=
  .next (hostCommand .portSet ph runPortSet s)

/-! ### Meters -/

/-- METER_READ's operation (R108). -/
def runMeterRead (s : State) : State :=
  match below 4 (s.arg 0).toNat, below 2 (s.arg 1).toNat with
  | some p, some view =>
    let m := s.ports[p].cmt
    if view = 0 then
      s.complete .ok (word m.ci) (word m.ei) (word (m.cbs * 4096 + m.ebs * 256 + m.margin)) 0
    else s.complete .ok (word m.committedCount) (word m.excessCount) (word (m.committed * 4096 + m.excess * 256)) 0
  | _, _ => s.completeBare .badArg

/-- METER_READ (R108). -/
def execMeterRead (ph : Phase) (s : State) : Host.Outcome State Fault Refusal :=
  .next (hostCommand .meterRead ph runMeterRead s)

/-- A meter with new settings: both buckets full, both counters at 0, no refill outstanding (R107). -/
def newMeter (ci cbs ei ebs margin : Nat) : Cmt :=
  { ci := ci, cbs := cbs, ei := ei, ebs := ebs, margin := margin, committed := cbs, excess := ebs, committedCount := 0,
    excessCount := 0, committedDue := 0, excessDue := 0 }

/-- METER_SET's operation (R107). -/
def runMeterSet (s : State) : State :=
  let ci := (s.arg 1).toNat
  let cbs := lo (s.arg 0)
  let ebs := hi (s.arg 3)
  let margin := lo (s.arg 3)
  match below 4 (hi (s.arg 0)) with
  | none => s.completeBare .badArg
  | some p =>
    if ci = 0 ∨ cbs = 0 ∨ 15 < cbs ∨ 15 < ebs ∨ 127 < margin then s.completeBare .badArg
    else (s.setCmt p (newMeter ci cbs (s.arg 2).toNat ebs margin)).completeBare .ok

/-- METER_SET (R107). -/
def execMeterSet (ph : Phase) (s : State) : Host.Outcome State Fault Refusal :=
  .next (hostCommand .meterSet ph runMeterSet s)

/-! ### COUNTERS_READ -/

/-- Bank 0 at 0 (R167). -/
def Counters.clearBank0 (k : Counters) : Counters := { k with checkErr := 0, fragment := 0, overrun := 0, replyLost := 0 }

/-- Bank 1 at 0 (R167). -/
def Counters.clearBank1 (k : Counters) : Counters := { k with refused := 0, rate := 0, tableFull := 0 }

/-- COUNTERS_READ's operation (R167). -/
def runCountersRead (s : State) : State :=
  match below 4 (s.arg 0).toNat, below 2 (s.arg 1).toNat with
  | some p, some bank =>
    let c := s.ports[p].cch
    let k := c.counters
    if bank = 0 then
      (s.setCch p { c with counters := k.clearBank0 }).complete .ok (word k.checkErr) (word k.fragment) (word k.overrun)
        (word k.replyLost)
    else
      (s.setCch p { c with counters := k.clearBank1 }).complete .ok (word k.refused) (word k.rate) (word k.tableFull) 0
  | _, _ => s.completeBare .badArg

/-- COUNTERS_READ (R167). -/
def execCountersRead (ph : Phase) (s : State) : Host.Outcome State Fault Refusal :=
  .next (hostCommand .countersRead ph runCountersRead s)

end Sys2Proof.Machine
end

