-- ==== Sys2Proof/Machine/Scope.lean ====
section
/-! DEFINITION. RETIRE_SCOPE and its walk, ABORT and SOFT_RESET (chapter 10, R175 to R182). -/

namespace Sys2Proof.Machine

/-- Replace the walker. -/
def State.setWalker (s : State) (w : Walker) : State := { s with cpt := { s.cpt with walker := w } }

/-! ### RETIRE_SCOPE -/

/-- The scope the arguments of RETIRE_SCOPE name, or none where R175 gives BAD_ARG. -/
def scopeArg (a0 a1 : Word) : Option Scope :=
  let made := fun x : Reach => ({ reach := x, pinned := a1.getLsbD 1, host := a1.getLsbD 0 } : Scope)
  match hi a0 with
  | 0 => (below 4 (lo a0)).map fun p => made (.port p)
  | 1 => (below 32 (lo a0)).map fun g => made (.group g)
  | 2 => some (made .all)
  | _ => none

/-- The taking of RETIRE_SCOPE (R175): abort becomes no, and the walk start is submitted. -/
def State.takenWalk (s : State) : State :=
  (s.taken .retireScope).setWalker { s.cpt.walker with starting := true, abort := false, resetWaits := false }

/-- A SOFT_RESET is in progress and waits for no ending, so that its event can be taken. A RETIRE_SCOPE during which it was
written makes no completion any more: its walk is abandoned (R182, log 6). -/
def State.resetReady (s : State) : Bool := s.cpt.inProgress == some .softReset && !s.cpt.walker.resetWaits

/-- The completion of RETIRE_SCOPE with ABORTED, and of a SOFT_RESET of a bad mode that waits for it (R180, R182). -/
def State.completeAborted (s : State) (count position : Nat) : State :=
  let w := s.cpt.walker
  let t := (s.setWalker { w with starting := false, scope := none, resetWaits := false }).complete .aborted (word count)
    (word position) 0 0
  if w.resetWaits then t.completeBare .badArg else t

/-- The walk start (R175, R180). -/
def walkStart (s : State) : State :=
  let w := s.cpt.walker
  if w.abort then s.completeAborted 0 0
  else
    match scopeArg (s.arg 0) (s.arg 1) with
    | none => (s.setWalker { w with starting := false }).completeBare .badArg
    | some sc => s.setWalker { w with starting := false, scope := some sc, position := 0, count := 0 }

/-- RETIRE_SCOPE in its three forms (R171, R175): `take` is the taking of the walk start, which lapses once the walk is
abandoned (R182). -/
def retireScopeStep (ph : Phase) (s : State) : State :=
  if s.pins.reset then s
  else
    match ph with
    | .whole => if s.busy then s.collided else walkStart s.takenWalk
    | .write => if s.busy then s.collided else s.takenWalk
    | .take => if s.cpt.walker.starting && !s.resetReady then walkStart s else s

/-- RETIRE_SCOPE (R175). -/
def execRetireScope (ph : Phase) (s : State) : Host.Outcome State Fault Refusal := .next (retireScopeStep ph s)

/-! ### WALK_VISIT -/

/-- The visited record is retired by the walk: live and in the scope (R177). -/
def Lsv.walkRetires (v : Lsv) (sc : Scope) (l : LeaseNo) : Bool := v.leases[l].live && sc.includes v.leases[l]

/-- The tables after a visit to lease `l` (R177). -/
def State.walkRetire (s : State) (sc : Scope) (l : LeaseNo) : State :=
  if s.lsv.walkRetires sc l then s.afterTables none (s.lsv.retire (some sc) .scope false l) else s

/-- One visit of a walk with scope `sc` to lease `l` (R177), the last one with the completion of R178 unless the walk is
abandoned (R182). -/
def walkVisitAt (s : State) (sc : Scope) (l : LeaseNo) : State :=
  let w := s.cpt.walker
  let count := w.count + flag (s.lsv.walkRetires sc l)
  let t := s.walkRetire sc l
  if l.val = 127 && !s.resetReady then
    (t.setWalker { w with scope := none, position := 128, count := count }).complete .ok (word count) (word 128) 0 0
  else t.setWalker { w with position := l.val + 1, count := count }

/-- WALK_VISIT, while a walk is in flight and abort is no. -/
def walkVisitStep (s : State) : State :=
  if s.pins.reset || s.cpt.walker.abort then s
  else
    match s.cpt.walker.scope, below 128 s.cpt.walker.position with
    | some sc, some l => walkVisitAt s sc l
    | _, _ => s

/-- WALK_VISIT (R177, R178). -/
def execWalkVisit (s : State) : Host.Outcome State Fault Refusal := .next (walkVisitStep s)

/-! ### ABORT and the walk's ending -/

/-- The command in progress is a RETIRE_SCOPE: the case of R171's exceptions. -/
def State.walkInProgress (s : State) : Bool := s.cpt.inProgress == some .retireScope

/-- ABORT written while BUSY is 1 (R171, R180): it stops the walk of a RETIRE_SCOPE, and collides with any other command. -/
def State.abortBusy (s : State) : State :=
  if s.walkInProgress then s.setWalker { s.cpt.walker with abort := true } else s.collided

/-- The write of ABORT to CMD (R169, R171, R180). -/
def State.writeAbort (s : State) : State := if s.busy then s.abortBusy else s.taken .abort

/-- The taking of the ABORT in progress: no walk is in flight, and it completes with NONE (R169). -/
def State.takeAbort (s : State) : State := if s.cpt.inProgress = some .abort then s.completeBare .none else s

/-- ABORT: the taking of the one in progress, or the write with the taking (R169, R171, R180; log 5). -/
def abortStep (s : State) : State :=
  if s.pins.reset then s
  else (if s.cpt.inProgress = some .abort then s else s.writeAbort).takeAbort

/-- ABORT (R169, R171, R180). -/
def execAbort (s : State) : Host.Outcome State Fault Refusal := .next (abortStep s)

/-- WALK_ENDING, while a walk is in flight and abort is yes (R180, R182). Once the walk is abandoned its ending lapses. -/
def walkEndingStep (s : State) : State :=
  let w := s.cpt.walker
  if s.pins.reset then s
  else if w.scope.isSome && w.abort && !s.resetReady then s.completeAborted w.count w.position
  else s

/-- WALK_ENDING (R180). -/
def execWalkEnding (s : State) : Host.Outcome State Fault Refusal := .next (walkEndingStep s)

/-! ### SOFT_RESET -/

/-- SOFT_RESET modes. -/
inductive ResetMode where
  | clear | keep
  deriving DecidableEq, Repr

/-- The mode an argument word names (R181, R189). -/
def resetMode (w : Word) : Option ResetMode :=
  match w.toNat with
  | 0 => some .clear
  | 1 => some .keep
  | _ => none

/-- A port after SOFT_RESET CLEAR (R90, R110, R128); the fault input and the expected pulse position are kept (R115). -/
def Port.cleared (x : Port) : Port :=
  { Port.initial with lpi := { Lpi.initial with faultIn := x.lpi.faultIn, expected := x.lpi.expected } }

/-- A meter after SOFT_RESET KEEP (R110). -/
def Cmt.kept (m : Cmt) : Cmt :=
  { m with committed := m.cbs, excess := m.ebs, committedCount := 0, excessCount := 0, committedDue := 0, excessDue := 0 }

/-- A port after SOFT_RESET KEEP (R90, R110, R128). -/
def Port.kept (x : Port) : Port := { x with cch := Cch.initial, cmt := x.cmt.kept }

/-- The Sweep Timer after SOFT_RESET KEEP (R157). -/
def Swt.kept (t : Swt) : Swt :=
  { Swt.initial with running := t.running, prescaler := t.prescaler, modulo := t.modulo }

/-- The Highway Interface after SOFT_RESET KEEP (R143). -/
def Hwi.kept (h : Hwi) : Hwi := { Hwi.initial with offset := h.offset, idleCode := h.idleCode }

/-- The event of a soft reset (R181): every block takes its values for the mode. The Payload Switch keeps its store (R143)
and what it has selected and begun (log 17). COLLIDE becomes 0 (R181, R183), also where a write of CMD has collided since the
SOFT_RESET was taken: R171 and R172 would leave it 1 past the completion, and the choice of R181 is the model's (log 26). -/
def State.softReset (s : State) (m : ResetMode) : State :=
  match m with
  | .clear =>
    { s with
      lsv := Lsv.initial, ports := tab 4 fun p => s.ports[p].cleared, cpr := Cpr.initial, swt := Swt.initial
      hwi := Hwi.initial, cpt := { Cpt.initial with dataOut := s.cpt.dataOut }, ntu := Ntu.initial }
  | .keep =>
    { s with
      ports := tab 4 fun p => s.ports[p].kept, cpr := Cpr.initial, swt := s.swt.kept, hwi := s.hwi.kept
      cpt := { Cpt.initial with args := s.cpt.args, dataOut := s.cpt.dataOut }
      ntu := { Ntu.initial with ien := s.ntu.ien } }

/-- A SOFT_RESET written with BUSY 0, or with a valid mode during a RETIRE_SCOPE, is taken as a command (R169, R171, R182). -/
def State.takenReset (s : State) : State :=
  (s.taken .softReset).setWalker { s.cpt.walker with resetWaits := false }

/-- A SOFT_RESET of a bad mode written during a RETIRE_SCOPE (R182): the walk ends as an ABORT would end it, and the
SOFT_RESET completes with that ending. -/
def State.takenBadReset (s : State) : State :=
  (s.taken .softReset).setWalker { s.cpt.walker with abort := true, resetWaits := true }

/-- The write of SOFT_RESET to CMD (R169, R171, R182). It latches the arguments, which hold the mode. -/
def State.writeReset (s : State) : State :=
  if s.busy then
    if s.walkInProgress then
      match resetMode s.cpt.args[(0 : Fin 4)] with
      | some _ => s.takenReset
      | none => s.takenBadReset
    else s.collided
  else s.takenReset

/-- The event of a SOFT_RESET, with its completion (R181). -/
def State.runSoftReset (s : State) : State :=
  match resetMode (s.arg 0) with
  | some m => (s.softReset m).completeBare .ok
  | none => s.completeBare .badArg

/-- The taking of a SOFT_RESET in progress; one of a bad mode that waits for the walk's ending is not taken by itself (R182). -/
def State.takeReset (s : State) : State := if s.resetReady then s.runSoftReset else s

/-- SOFT_RESET: the event of the one in progress, or the write with the event (R171, R181, R182; log 5). -/
def softResetStep (s : State) : State :=
  if s.pins.reset then s
  else (if s.resetReady then s else s.writeReset).takeReset

/-- SOFT_RESET (R181, R182). -/
def execSoftReset (s : State) : Host.Outcome State Fault Refusal := .next (softResetStep s)

end Sys2Proof.Machine
end

