-- ==== Sys2Proof/Machine/SlotCommands.lean ====
section
/-! DEFINITION. Host commands on slots, the pool and the monitor tap (chapter 2): SLOT_READ, SLOT_RESERVE, SLOT_RELEASE,
POOL_READ, POOL_SET, MONITOR_SET, MONITOR_CLEAR. -/

namespace Sys2Proof.Machine

/-! ### SLOT_READ -/

/-- Position of a slot in the free list or the quarantine list, counted from 0, or none (R37). -/
def Lsv.position (v : Lsv) (sl : SlotNo) : Option Nat :=
  match v.slots[sl].state with
  | .free => some (v.freeList.idxOf sl)
  | .quarantine => some (v.quarantine.idxOf sl)
  | .reserved => none
  | .held => none

/-- RES0 of SLOT_READ: state, tap-target flag, home or 3, guard or FFh (12 §12.5). -/
def Lsv.slotWord (v : Lsv) (sl : SlotNo) : Word :=
  let r := v.slots[sl]
  word (r.state.toCode * 16384 + flag (v.tapTarget sl) * 8192 + (r.home.map Home.toCode).getD 3 * 256
    + r.guard.getD 0xFF)

/-- SLOT_READ's operation (R37). -/
def runSlotRead (s : State) : State :=
  match below 128 (s.arg 0).toNat with
  | none => s.completeBare .badArg
  | some sl =>
    s.complete .ok (s.lsv.slotWord sl) (word (orNone s.lsv.slots[sl].holder 0xFFFF))
      (word ((s.lsv.position sl).getD 0xFFFF)) 0

/-- SLOT_READ (R37). -/
def execSlotRead (ph : Phase) (s : State) : Host.Outcome State Fault Refusal :=
  .next (hostCommand .slotRead ph runSlotRead s)

/-! ### SLOT_RESERVE and SLOT_RELEASE -/

/-- A slot set aside from the pool (R38). -/
def Lsv.reserveSlot (v : Lsv) (sl : SlotNo) : Lsv :=
  match v.slots[sl].state with
  | .free => { v.setSlot sl SlotRec.reserved with freeList := v.freeList.erase sl }
  | .quarantine => { v.setSlot sl SlotRec.reserved with quarantine := v.quarantine.erase sl }
  | .reserved => v
  | .held => v.setSlot sl { v.slots[sl] with home := some .reserved }

/-- A slot returned to the pool (R39). -/
def Lsv.releaseSlot (v : Lsv) (sl : SlotNo) : Lsv :=
  match v.slots[sl].state with
  | .reserved => v.toPool sl
  | .held => v.setSlot sl { v.slots[sl] with home := some .pool }
  | .free => v
  | .quarantine => v

/-- The result word of SLOT_RESERVE and SLOT_RELEASE: the state the slot had before the command. -/
def Lsv.slotStateWord (v : Lsv) (sl : SlotNo) : Word := word (v.slots[sl].state.toCode * 16384)

/-- SLOT_RESERVE's operation (R38). -/
def runSlotReserve (s : State) : State :=
  match below 128 (s.arg 0).toNat with
  | none => s.completeBare .badArg
  | some sl => { s with lsv := s.lsv.reserveSlot sl }.complete .ok (s.lsv.slotStateWord sl) 0 0 0

/-- SLOT_RESERVE (R38). -/
def execSlotReserve (ph : Phase) (s : State) : Host.Outcome State Fault Refusal :=
  .next (hostCommand .slotReserve ph runSlotReserve s)

/-- SLOT_RELEASE's operation (R39). -/
def runSlotRelease (s : State) : State :=
  match below 128 (s.arg 0).toNat with
  | none => s.completeBare .badArg
  | some sl =>
    if s.lsv.slots[sl].state = .reserved ∧ s.lsv.tapTarget sl then s.completeBare .tapBusy
    else { s with lsv := s.lsv.releaseSlot sl }.complete .ok (s.lsv.slotStateWord sl) 0 0 0

/-- SLOT_RELEASE (R39). -/
def execSlotRelease (ph : Phase) (s : State) : Host.Outcome State Fault Refusal :=
  .next (hostCommand .slotRelease ph runSlotRelease s)

/-! ### POOL_READ and POOL_SET -/

/-- POOL_READ, view SUMMARY (R44). -/
def State.poolSummary (s : State) : State :=
  let v := s.lsv
  s.complete .ok (word (v.freeList.length * 256 + v.quarantine.length)) (word v.guardSetting)
    (word (v.floors[0] * 256 + v.floors[1])) (word (v.floors[2] * 256 + v.floors[3]))

/-- POOL_READ, view TAP (R44). -/
def State.poolTap (s : State) : State :=
  let t := s.lsv.tap
  s.complete .ok (word ((t.endReason.map EndReason.toCode).getD 0 * 256 + t.state.toCode))
    (word (orNone t.source 0xFFFF)) (word (orNone t.target 0xFFFF)) 0

/-- POOL_READ, view FREE_ENTRY (R44). -/
def State.poolFreeEntry (s : State) (i : Nat) : State :=
  match s.lsv.freeList[i]? with
  | none => s.completeBare .none
  | some sl => s.complete .ok (word sl.val) 0 0 0

/-- POOL_READ, view QUARANTINE_ENTRY (R44). -/
def State.poolQuarantineEntry (s : State) (i : Nat) : State :=
  match s.lsv.quarantine[i]? with
  | none => s.completeBare .none
  | some sl => s.complete .ok (word sl.val) (word (s.lsv.slots[sl].guard.getD 0)) 0 0

/-- POOL_READ's operation (R44); the index is ignored by the views SUMMARY and TAP. -/
def runPoolRead (s : State) : State :=
  let i := (s.arg 1).toNat
  match (s.arg 0).toNat with
  | 0 => s.poolSummary
  | 1 => s.poolTap
  | 2 => if i < 128 then s.poolFreeEntry i else s.completeBare .badArg
  | 3 => if i < 128 then s.poolQuarantineEntry i else s.completeBare .badArg
  | _ => s.completeBare .badArg

/-- POOL_READ (R44). -/
def execPoolRead (ph : Phase) (s : State) : Host.Outcome State Fault Refusal :=
  .next (hostCommand .poolRead ph runPoolRead s)

/-- POOL_SET's operation (R45). -/
def runPoolSet (s : State) : State :=
  let g := lo (s.arg 0)
  let f0 := hi (s.arg 1)
  let f1 := lo (s.arg 1)
  let f2 := hi (s.arg 2)
  let f3 := lo (s.arg 2)
  if g ≤ 15 ∧ f0 ≤ 127 ∧ f1 ≤ 127 ∧ f2 ≤ 127 ∧ f3 ≤ 127 then
    { s with lsv := { s.lsv with guardSetting := g, floors := #v[f0, f1, f2, f3] } }.completeBare .ok
  else s.completeBare .badArg

/-- POOL_SET (R45). -/
def execPoolSet (ph : Phase) (s : State) : Host.Outcome State Fault Refusal :=
  .next (hostCommand .poolSet ph runPoolSet s)

/-! ### The monitor tap -/

/-- MONITOR_SET's operation (R48). -/
def runMonitorSet (s : State) : State :=
  match below 128 (s.arg 0).toNat, below 128 (s.arg 1).toNat with
  | some l, some sl =>
    if s.lsv.tap.state = .on then s.completeBare .tapBusy
    else if !s.lsv.leases[l].live then s.completeBare .notLive
    else if s.lsv.slots[sl].state ≠ .reserved then s.completeBare .badArg
    else
      { s with
        lsv := { s.lsv with tap := { state := .on, source := some l, target := some sl, endReason := none } } }.completeBare .ok
  | _, _ => s.completeBare .badArg

/-- MONITOR_SET (R48). -/
def execMonitorSet (ph : Phase) (s : State) : Host.Outcome State Fault Refusal :=
  .next (hostCommand .monitorSet ph runMonitorSet s)

/-- MONITOR_CLEAR's operation (R49). -/
def runMonitorClear (s : State) : State :=
  { s with lsv := { s.lsv with tap := { state := .off, source := none, target := none, endReason := none } } }.completeBare .ok

/-- MONITOR_CLEAR (R49). -/
def execMonitorClear (ph : Phase) (s : State) : Host.Outcome State Fault Refusal :=
  .next (hostCommand .monitorClear ph runMonitorClear s)

end Sys2Proof.Machine
end

