-- ==== Sys2Proof/Machine/Sweep.lean ====
section
/-! DEFINITION. Sweep ticks, the quarantine phase and the visits of a sweep (chapter 8; R34, R121, R122). -/

namespace Sys2Proof.Machine

/-! ### Ticks -/

/-- A tick can be taken: one is outstanding, and neither HOLD nor RESET is asserted (R144, R145). -/
def State.tickReady (s : State) : Bool := decide (0 < s.swt.ticksDue) && !s.pins.hold && !s.pins.reset

/-- A port at a tick (R121): a FAULTED or RECOVERING port lowers its countdown, and is LOST when it reaches 0. -/
def Lpi.tick (l : Lpi) : Lpi :=
  if l.faulty && decide (0 < l.countdown) then
    { l with countdown := l.countdown - 1, lost := l.lost || decide (l.countdown = 1) }
  else l

/-- The sweep side of a tick (R145). -/
def Swt.tick (t : Swt) : Swt :=
  if t.sweep = .idle then { t with sweep := .qphase, request := true }
  else if t.pendingTick then { t with overrun := saturate t.overrun }
  else { t with pendingTick := true }

/-- The tick is lost on the sweep side (R145, R155). -/
def Swt.losesTick (t : Swt) : Bool := decide (t.sweep ≠ .idle) && t.pendingTick

/-- The tick (R121, R145). -/
def State.tick (s : State) : State :=
  { s with
    ports := tab 4 fun p => { s.ports[p] with lpi := s.ports[p].lpi.tick }
    swt := { s.swt.tick with ticksDue := s.swt.ticksDue - 1 } }.raiseIf s.swt.losesTick .sweep

/-- SWEEP_TICK, while a tick can be taken. -/
def sweepTickStep (s : State) : State := if s.tickReady then s.tick else s

/-- SWEEP_TICK (R145). -/
def execSweepTick (s : State) : Host.Outcome State Fault Refusal := .next (sweepTickStep s)

/-- The next tick makes the port LOST (R121). -/
def Lpi.losesNext (l : Lpi) : Bool := l.faulty && l.countdown == 1

/-- LOST: the tick at which port `p` becomes LOST (log 3). -/
def lostStep (p : PortNo) (s : State) : State := if s.tickReady && s.ports[p].lpi.losesNext then s.tick else s

/-- LOST (R121). -/
def execLost (p : PortNo) (s : State) : Host.Outcome State Fault Refusal := .next (lostStep p s)

/-! ### The quarantine phase -/

/-- The quarantine phase is outstanding (R146). R34 says that none is taken while the Sweep Timer is STOPPED, R147 and R153 that
a sweep already begun goes on to its end: the model takes the phase of a sweep that stands in QPHASE at the STOP (log 22). -/
def State.phaseReady (s : State) : Bool := !s.pins.reset && s.swt.request && decide (s.swt.sweep = .qphase)

/-- A request that the LSV takes while HOLD is asserted lapses (R146, R152). -/
def State.lapse (s : State) : State := { s with swt := { s.swt with request := false } }

/-- The quarantine phase as one table operation (R34, R146). -/
def State.phase (s : State) : State :=
  { s with lsv := s.lsv.quarantinePhase, swt := { s.swt with sweep := .lphase 0, request := true } }

/-- QUARANTINE_PHASE, while it is outstanding. -/
def quarantinePhaseStep (s : State) : State :=
  if s.phaseReady then (if s.pins.hold then s.lapse else s.phase) else s

/-- QUARANTINE_PHASE (R34, R146). -/
def execQuarantinePhase (s : State) : Host.Outcome State Fault Refusal := .next (quarantinePhaseStep s)

/-- The next quarantine phase brings the guard of the slot to 0 (R34). -/
def Lsv.guardEnds (v : Lsv) (sl : SlotNo) : Bool := decide (sl ∈ v.quarantine) && v.slots[sl].guard == some 1

/-- GUARD_EXPIRY: the quarantine phase at which the guard of slot `sl` reaches 0 (log 3). -/
def guardExpiryStep (sl : SlotNo) (s : State) : State :=
  if s.phaseReady && !s.pins.hold && s.lsv.guardEnds sl then s.phase else s

/-- GUARD_EXPIRY (R34). -/
def execGuardExpiry (sl : SlotNo) (s : State) : Host.Outcome State Fault Refusal := .next (guardExpiryStep sl s)

/-! ### Visits -/

/-- What a visit does to a lease (R148). -/
inductive Visit where
  | pass
  | age
  | expire
  | loseLink
  deriving DecidableEq, Repr

/-- The action of a visit to a record whose group has expiry limit `limit` and whose port's LOST flag is `lost` (R148). -/
def Lease.visit (r : Lease) (limit : Nat) (lost : Bool) : Visit :=
  if !r.live || !r.yields then .pass
  else if r.state = .conditioned then (if lost then .loseLink else .pass)
  else if limit = 0 then .pass
  else if limit ≤ r.idle + 1 then .expire
  else .age

/-- The action of a visit to lease `l` (R148). -/
def State.visitOf (s : State) (l : LeaseNo) : Visit :=
  let r := s.lsv.leases[l]
  r.visit s.lsv.groups[r.group].expiryLimit s.ports[r.port].lpi.lost

/-- The tables with lease `l`'s idle count raised by one (R6). -/
def Lsv.aged (v : Lsv) (l : LeaseNo) : Lsv := v.setLease l { v.leases[l] with idle := v.leases[l].idle + 1 }

/-- The table side of a visit to lease `l` (R122, R148, R149). -/
def State.visitLease (s : State) (l : LeaseNo) : State :=
  match s.visitOf l with
  | .pass => s
  | .age => { s with lsv := s.lsv.aged l }
  | .expire => s.afterTables none ((s.lsv.aged l).retire s.scope .expired false l)
  | .loseLink => s.afterTables none (s.lsv.retire s.scope .linkLost false l)

/-- The sweep after its visit to lease `l` (R146, R147). -/
def Swt.afterVisit (t : Swt) (l : LeaseNo) : Swt :=
  if h : l.val < 127 then { t with sweep := .lphase ⟨l.val + 1, by omega⟩, request := true }
  else if t.pendingTick then { t with sweep := .qphase, pendingTick := false, request := true }
  else { t with sweep := .idle, request := false }

/-- The lease whose visit is outstanding (R146). -/
def State.visitReady (s : State) : Option LeaseNo :=
  if !s.pins.reset && s.swt.request then s.swt.sweep.position else none

/-- One visit as one table operation (R146 to R149). -/
def State.sweepVisitAt (s : State) (l : LeaseNo) : State :=
  { s.visitLease l with swt := s.swt.afterVisit l }

/-- SWEEP_VISIT, while a visit is outstanding. -/
def sweepVisitStep (s : State) : State :=
  match s.visitReady with
  | none => s
  | some l => if s.pins.hold then s.lapse else s.sweepVisitAt l

/-- SWEEP_VISIT (R146 to R148). -/
def execSweepVisit (s : State) : Host.Outcome State Fault Refusal := .next (sweepVisitStep s)

/-- LEASE_EXPIRY: the visit at which the visited lease expires (log 3). -/
def leaseExpiryStep (s : State) : State :=
  match s.visitReady with
  | none => s
  | some l => if !s.pins.hold && decide (s.visitOf l = .expire) then s.sweepVisitAt l else s

/-- LEASE_EXPIRY (R149). -/
def execLeaseExpiry (s : State) : Host.Outcome State Fault Refusal := .next (leaseExpiryStep s)

end Sys2Proof.Machine
end

