-- ==== Sys2Proof/Machine/Switching.lean ====
section
/-! DEFINITION. Frames and switching: the start of an internal frame with its counters and selections, line frames, meter
refills, and the highway frame pulse (chapter 7; R95, R115, R116, R118, R144). -/

namespace Sys2Proof.Machine

/-! ### Counters of the internal frame -/

/-- One frame of a meter interval counter (R95): the counter after it, and whether the interval is complete. -/
def countTo (interval count : Nat) : Nat × Bool := if interval ≤ count + 1 then (0, true) else (count + 1, false)

/-- One frame of the committed counter (R95); a complete interval leaves a refill outstanding (log 4). -/
def Cmt.countCommitted (m : Cmt) : Cmt :=
  let c := countTo m.ci m.committedCount
  { m with committedCount := c.1, committedDue := m.committedDue + flag c.2 }

/-- One frame of the excess counter (R95), which stands still while EI is 0. -/
def Cmt.countExcess (m : Cmt) : Cmt :=
  if m.ei = 0 then m
  else
    let c := countTo m.ei m.excessCount
    { m with excessCount := c.1, excessDue := m.excessDue + flag c.2 }

/-- The start of a frame at the hold and recovery timers (R116, R118): the frame that ends is counted if it began after the
timer's start (log 12). A timer at 0 has run out. -/
def Lpi.countFrame (l : Lpi) : Lpi :=
  if l.counting then
    { l with holdTimer := l.holdTimer.map (· - 1), recoveryTimer := l.recoveryTimer.map (· - 1) }
  else { l with counting := true }

/-- One frame of a port's counters. -/
def Port.countFrame (x : Port) : Port := { x with lpi := x.lpi.countFrame, cmt := x.cmt.countCommitted.countExcess }

/-- One counter step of the Sweep Timer (R144): at the modulo the counter returns to 0 and a tick is made. -/
def Swt.step (t : Swt) : Swt :=
  let c := countTo t.modulo t.counter
  { t with counter := c.1, ticksDue := t.ticksDue + flag c.2 }

/-- One counted frame of the Sweep Timer (R144). -/
def Swt.countFrame (t : Swt) : Swt :=
  let c := countTo t.prescaler t.prescalerCount
  let u := { t with prescalerCount := c.1 }
  if c.2 then u.step else u

/-- The Sweep Timer counts while it is RUNNING and HOLD is not asserted (R144). -/
def State.frameSwt (s : State) : Swt := if s.swt.running && !s.pins.hold then s.swt.countFrame else s.swt

/-! ### Selections of a frame -/

/-- The conditioning code used for a lease (R125). -/
def State.codeOf (s : State) (r : Lease) : Byte := r.code.getD s.ports[r.port].lpi.code

/-- The line sample of a lease's port and channel received in the previous frame. -/
def Psw.sampleOf (w : Psw) (r : Lease) : Byte := w.lineStore[r.port][r.channel]

/-- The content a lease gives its highway slot (R134). -/
def State.holderContent (s : State) (w : Psw) (r : Lease) : Option Byte :=
  match r.state with
  | .active => some (w.sampleOf r)
  | .conditioned => some (s.codeOf r)
  | .waiting | .free | .retired => none

/-- The content the tap's source gives the target slot (R47). -/
def State.tapContent (s : State) (w : Psw) (r : Lease) : Option Byte :=
  match r.state with
  | .active | .waiting => some (w.sampleOf r)
  | .conditioned => some (s.codeOf r)
  | .free | .retired => none

/-- The content of highway slot `sl` in the frame that begins (R134); `w` holds the samples of the frame before. -/
def State.slotContent (s : State) (w : Psw) (sl : SlotNo) : Option Byte :=
  match s.lsv.slots[sl].state with
  | .held => s.lsv.slots[sl].holder.bind fun l => s.holderContent w s.lsv.leases[l]
  | .reserved =>
    if s.lsv.tapTarget sl then s.lsv.tap.source.bind fun l => s.tapContent w s.lsv.leases[l] else none
  | .free | .quarantine => none

/-- What a bound bearer channel carries (R137); `content` is the selection for each highway slot in this frame. -/
def State.boundSel (s : State) (content : Vector (Option Byte) 128) (r : Lease) : LineSel :=
  let idle := LineSel.byte s.hwi.idleCode
  match r.kind, r.state with
  | .duplex, .active =>
    match r.slot with
    | some sl => .highwayIn sl (s.codeOf r)
    | none => idle
  | .listen, .active =>
    match (s.lsv.talkerSlot r.group).bind fun sl => content[sl] with
    | some b => .byte b
    | none => idle
  | _, _ => idle

/-- What transmit channel `c` of port `p` carries in the frame that begins (R137). -/
def State.channelSel (s : State) (content : Vector (Option Byte) 128) (p : PortNo) (c : ChanNo) : LineSel :=
  if c = s.ports[p].lpi.format.signalling then .signalling
  else
    match s.lsv.entry p c with
    | none => .byte s.hwi.idleCode
    | some l => s.boundSel content s.lsv.leases[l]

/-- The sample store and the highway frames at the start of an internal frame (R136): what was received in the frame that
ended is that of the previous frame, and no line frame and no aligned highway frame has begun in the new one. -/
def Psw.shift (w : Psw) : Psw :=
  { w with
    lineStore := w.lineRx, hwStore := w.hwRx, hwRx := floated, carried := Vector.replicate 4 false
    begun := none, begunBefore := w.begun, begunEarlier := w.begunBefore }

/-- The Payload Switch after the start of a frame (R134, R137, R140). The format in force in a frame is that of its start
(R114, log 25). -/
def State.framePsw (s : State) : Psw :=
  let w := s.psw.shift
  let content := tab 128 (s.slotContent w)
  { w with
    slotSel := content
    formats := tab 4 fun p => s.ports[p].lpi.format
    lineSel := tab 4 fun p => tab 32 fun c => s.channelSel content p c }

/-- FRAME_START: the selections of the frame, and the counters of every frame-counted mechanism (R129). While RESET is
asserted nothing is counted (R110, R128, R156). -/
def frameStartStep (s : State) : State :=
  let t := { s with psw := s.framePsw }
  if s.pins.reset then t
  else { t with ports := tab 4 fun p => s.ports[p].countFrame, swt := s.frameSwt }

/-- FRAME_START (R95, R116, R118, R140, R144). -/
def execFrameStart (s : State) : Host.Outcome State Fault Refusal := .next (frameStartStep s)

/-! ### Refills -/

/-- An outstanding committed refill (R95): one token, if the bucket is below its size. -/
def Cmt.refillCommitted (m : Cmt) : Cmt :=
  if 0 < m.committedDue then
    { m with committedDue := m.committedDue - 1
             committed := if m.committed < m.cbs then m.committed + 1 else m.committed }
  else m

/-- An outstanding excess refill (R95). -/
def Cmt.refillExcess (m : Cmt) : Cmt :=
  if 0 < m.excessDue then
    { m with excessDue := m.excessDue - 1
             excess := if m.excess < m.ebs then m.excess + 1 else m.excess }
  else m

/-- A refill at port `p`'s meter; while RESET is asserted the meters stand still (R95, R110). -/
def refillStep (refill : Cmt → Cmt) (p : PortNo) (s : State) : State :=
  if s.pins.reset then s else s.setCmt p (refill s.ports[p].cmt)

/-- COMMITTED_REFILL (R95). -/
def execCommittedRefill (p : PortNo) (s : State) : Host.Outcome State Fault Refusal :=
  .next (refillStep Cmt.refillCommitted p s)

/-- EXCESS_REFILL (R95). -/
def execExcessRefill (p : PortNo) (s : State) : Host.Outcome State Fault Refusal :=
  .next (refillStep Cmt.refillExcess p s)

/-! ### Placement of highway frames (R133, R135, R141) -/

/-- What highway frame `f`, begun `age` internal frames ago, drives at bit time `b` of the present one (R133, R135): slot `sl`
stands at the eight bit times of slot time offset + `sl` counted from its pulse. -/
def HighwayFrame.drives (f : HighwayFrame) (age : Nat) (b : BitTime) : Option Byte :=
  let first := f.start.val + 8 * f.offset.val
  let time := age * 1024 + b.val
  if h : first ≤ time ∧ time < first + 1024 then f.content[(time - first) / 8]'(by omega) else none

/-- Highway-out at bit time `b` of the present internal frame (R133, R135); while RESET is asserted every slot is floated. -/
def State.highwayOut (s : State) (b : BitTime) : Option Byte :=
  if s.pins.reset then none
  else
    ((s.psw.begun.bind (·.drives 0 b)).or (s.psw.begunBefore.bind (·.drives 1 b))).or
      (s.psw.begunEarlier.bind (·.drives 2 b))

/-- Slot `sl` of frame `f` lies at or after slot 0 of the next frame, placed with `offset` (R141). -/
def HighwayFrame.cutBy (f : HighwayFrame) (offset : Fin 128) (sl : SlotNo) : Bool :=
  decide (128 + offset.val ≤ f.offset.val + sl.val)

/-- Frame `f` after the next one begins with `offset`: the slots cut are not driven (R141). -/
def HighwayFrame.cut (f : HighwayFrame) (offset : Fin 128) : HighwayFrame :=
  { f with content := tab 128 fun sl => if f.cutBy offset sl then none else f.content[sl] }

/-- The offset `offset` cuts slot `sl` of the highway frame begun in the previous internal frame (R141). -/
def Psw.cuts (w : Psw) (offset : Fin 128) (sl : SlotNo) : Bool :=
  match w.begunBefore with
  | none => false
  | some f => f.cutBy offset sl

/-- The byte sent for a line selection when the new frame is placed with `offset`: a slot it cuts gives its lease's
conditioning code (R138, R141). -/
def Psw.recoded (w : Psw) (offset : Fin 128) (sel : LineSel) (sent : Byte) : Byte :=
  match sel with
  | .signalling => sent
  | .byte _ => sent
  | .highwayIn sl code => if w.cuts offset sl then code else sent

/-- The bytes of the line frames that this internal frame has carried before an aligned highway frame begins in it with `offset`
(R141): the order of the two rows makes no difference (log 11). -/
def Psw.recodedTx (w : Psw) (offset : Fin 128) : Vector (Vector Byte 32) 4 :=
  tab 4 fun p =>
    if w.carried[p] then tab 32 fun c => w.recoded offset w.lineSel[p][c] w.lineTx[p][c] else w.lineTx[p]

/-! ### Line frames -/

/-- The byte a line transmit channel sends for its selection (R137, R138). -/
def State.sentByte (s : State) (p : PortNo) : LineSel → Byte
  | .signalling => s.signallingByte p
  | .byte b => b
  | .highwayIn sl code => s.psw.hwStore[sl].getD code

/-- The bytes of a line frame of port `p` (R137). -/
def State.lineBytes (s : State) (p : PortNo) : Vector Byte 32 := tab 32 fun c => s.sentByte p s.psw.lineSel[p][c]

/-- The payload side of a line frame (R136, R137): the bytes sent, the samples stored, the transmitter moved on. -/
def State.carryLine (s : State) (p : PortNo) (rx : Vector Byte 32) : State :=
  { s.transmitted p with
    psw := { s.psw with
      lineTx := upd s.psw.lineTx p (s.lineBytes p), lineRx := upd s.psw.lineRx p rx, carried := upd s.psw.carried p true } }

/-- The level of the fault input in a line frame (R115): the alarm pin, a pulse that is missing or at another position, or
no expected position yet. -/
def Lpi.lineFault (l : Lpi) (alarm : Bool) (pulse : Option Nat) : Bool :=
  alarm || pulse.isNone || pulse != l.expected

/-- The expected pulse position after a line frame (R115): a pulse sets it, a missing pulse leaves it. -/
def Lpi.expects (l : Lpi) (pulse : Option Nat) : Lpi := { l with expected := pulse.or l.expected }

/-- The fault side of a line frame (R115). -/
def State.watchLine (s : State) (p : PortNo) (alarm : Bool) (pulse : Option Nat) : State :=
  let l := s.ports[p].lpi
  (s.setLpi p (l.expects pulse)).faultInput p (l.lineFault alarm pulse)

/-- LINE_FRAME of port `p`, whose signalling channel is that of the format in force in the frame (R71, log 25). While RESET is
asserted the samples are stored and nothing else is taken (R90, R128). -/
def lineFrameStep (p : PortNo) (rx : Vector Byte 32) (alarm : Bool) (pulse : Option Nat) (cch : Bool) (s : State) : State :=
  let t := s.carryLine p rx
  if s.pins.reset then t
  else
    let u := if cch then t.receiveByte p rx[t.psw.formats[p].signalling] else t
    (u.watchLine p alarm pulse).pollServing

/-- LINE_FRAME (R71, R82, R115, R136, R137). -/
def execLineFrame (p : PortNo) (rx : Vector Byte 32) (alarm : Bool) (pulse : Option Nat) (cch : Bool) (s : State) :
    Host.Outcome State Fault Refusal :=
  .next (lineFrameStep p rx alarm pulse cch s)

/-! ### The highway frame pulse -/

/-- A pulse at bit time `t` (R130, R131). -/
def Hwi.pulse (h : Hwi) (t : BitTime) : Hwi :=
  let restart := { h with alignment := .confirm, expected := some t, confirmCount := 0, missCount := 0 }
  match h.alignment with
  | .seek => restart
  | .confirm =>
    if h.expected = some t then
      if h.confirmCount + 1 < 2 then { h with confirmCount := h.confirmCount + 1 }
      else { h with alignment := .aligned, confirmCount := h.confirmCount + 1, missCount := 0, realign := saturate h.realign }
    else restart
  | .aligned => if h.expected = some t then { h with missCount := 0 } else restart

/-- The expected position passes with no pulse there (R130, R131). -/
def Hwi.miss (h : Hwi) : Hwi :=
  match h.alignment with
  | .seek => h
  | .confirm => { h with alignment := .seek, expected := none, confirmCount := 0 }
  | .aligned =>
    if h.missCount < 3 then { h with missCount := h.missCount + 1 }
    else { h with alignment := .seek, expected := none, missCount := 0 }

/-- The HWI enters or leaves ALIGNED, which sets HWY (R132). -/
def Hwi.changesAligned (h g : Hwi) : Bool := decide (h.alignment = .aligned) != decide (g.alignment = .aligned)

/-- The highway-in sample of slot `sl`, taken at its slot time in the stream from the pulse on (R133, R136). -/
def sampleAt (offset : Fin 128) (hwIn : Vector Byte 256) (sl : SlotNo) : Byte :=
  hwIn[offset.val + sl.val]'(by omega)

/-- An aligned highway frame begins at bit time `start` (R133, R135, R136, R141): `h` is the HWI after the position, and
`hwIn` the highway-in stream from it. The slots it cuts of the frame before are neither driven nor marked aligned, and a line
frame of this internal frame sends the conditioning code for them (R138). -/
def State.beginHighwayFrame (s : State) (h : Hwi) (start : BitTime) (hwIn : Vector Byte 256) : State :=
  { s with
    hwi := h
    psw := { s.psw with
      hwRx := tab 128 fun sl => some (sampleAt h.offset hwIn sl)
      hwStore := tab 128 fun sl => if s.psw.cuts h.offset sl then none else s.psw.hwStore[sl]
      lineTx := s.psw.recodedTx h.offset
      begun := some { start := start, offset := h.offset, content := s.psw.slotSel }
      begunBefore := s.psw.begunBefore.map (·.cut h.offset) } }

/-- The HWI has dealt with a position and is now `h` (R132, R135): where it is not ALIGNED no aligned highway frame begins,
and the slots of the frames already begun go on at their own times (R133). -/
def State.highwayEvent (s : State) (h : Hwi) (start : BitTime) (hwIn : Vector Byte 256) : State :=
  (if h.alignment = .aligned then s.beginHighwayFrame h start hwIn else { s with hwi := h }).raiseIf
    (s.hwi.changesAligned h) .hwy

/-- A highway frame pulse; while RESET is asserted it is ignored (R143). -/
def highwayPulseStep (t : BitTime) (hwIn : Vector Byte 256) (s : State) : State :=
  if s.pins.reset then s else s.highwayEvent (s.hwi.pulse t) t hwIn

/-- HIGHWAY_PULSE (R130 to R133, R135, R136). -/
def execHighwayPulse (t : BitTime) (hwIn : Vector Byte 256) (s : State) : Host.Outcome State Fault Refusal :=
  .next (highwayPulseStep t hwIn s)

/-- The expected position passes without a pulse; in SEEK there is no expected position, and in the other states one is always
present (log 18). -/
def pulseMissingStep (hwIn : Vector Byte 256) (s : State) : State :=
  if s.pins.reset || decide (s.hwi.alignment = .seek) then s
  else s.highwayEvent s.hwi.miss (s.hwi.expected.getD 0) hwIn

/-- PULSE_MISSING (R130, R131). -/
def execPulseMissing (hwIn : Vector Byte 256) (s : State) : Host.Outcome State Fault Refusal :=
  .next (pulseMissingStep hwIn s)

end Sys2Proof.Machine
end

