-- ==== Sys2Proof/Machine/TimingCommands.lean ====
section
/-! DEFINITION. Host commands on the highway and the Sweep Timer, and REFUSAL_READ: HIGHWAY_READ, HIGHWAY_SET (chapter 7),
SWEEP_READ, SWEEP_SET (chapter 8), REFUSAL_READ (chapter 9). -/

namespace Sys2Proof.Machine

/-- The count HIGHWAY_READ reports: the confirm count in CONFIRM, the miss count in ALIGNED (R142). -/
def Hwi.reportedCount (h : Hwi) : Nat :=
  match h.alignment with
  | .seek => 0
  | .confirm => h.confirmCount
  | .aligned => h.missCount

/-- HIGHWAY_READ's event (R142): the realign counter is cleared as it is read. -/
def runHighwayRead (s : State) : State :=
  let h := s.hwi
  { s with hwi := { h with realign := 0 } }.complete .ok
    (word (h.alignment.toCode * 16384 + h.reportedCount * 4096 + h.offset.val)) (word (orNone h.expected 0xFFFF))
    (word h.idleCode.toNat) (word h.realign)

/-- HIGHWAY_READ (R142). -/
def execHighwayRead (ph : Phase) (s : State) : Host.Outcome State Fault Refusal :=
  .next (hostCommand .highwayRead ph runHighwayRead s)

/-- HIGHWAY_SET's event (R141). -/
def runHighwaySet (s : State) : State :=
  match below 128 (s.arg 0).toNat with
  | none => s.completeBare .badArg
  | some o =>
    if 255 < (s.arg 1).toNat then s.completeBare .badArg
    else { s with hwi := { s.hwi with offset := o, idleCode := byteOf (s.arg 1).toNat } }.completeBare .ok

/-- HIGHWAY_SET (R141). -/
def execHighwaySet (ph : Phase) (s : State) : Host.Outcome State Fault Refusal :=
  .next (hostCommand .highwaySet ph runHighwaySet s)

/-- SWEEP_READ's event (R154): a STATUS read clears SWEEP_OVERRUN, a COUNTS read leaves it. -/
def runSweepRead (s : State) : State :=
  let t := s.swt
  match (s.arg 0).toNat with
  | 0 =>
    { s with swt := { t with overrun := 0 } }.complete .ok (word (t.prescaler * 256 + orNone t.sweep.position 0xFF))
      (word (t.sweep.toCode * 16384 + flag t.pendingTick * 8192 + flag t.running * 4096 + flag s.pins.hold * 2048))
      (word t.modulo) (word t.overrun)
  | 1 => s.complete .ok (word t.prescalerCount) (word t.counter) 0 0
  | _ => s.completeBare .badArg

/-- SWEEP_READ (R154). -/
def execSweepRead (ph : Phase) (s : State) : Host.Outcome State Fault Refusal :=
  .next (hostCommand .sweepRead ph runSweepRead s)

/-- The prescaler settings (R153). -/
def prescalerSettings : List Nat := [1, 2, 4, 8, 16, 32, 64, 128]

/-- The timer with new settings (R153): the counts restart, an untaken tick does not come, and STOP clears pending. -/
def Swt.configured (t : Swt) (prescaler modulo : Nat) (run : Bool) : Swt :=
  { t with prescaler := prescaler, modulo := modulo, prescalerCount := 0, counter := 0, running := run,
           pendingTick := t.pendingTick && run, ticksDue := 0 }

/-- SWEEP_SET's event (R153). -/
def runSweepSet (s : State) : State :=
  let prescaler := hi (s.arg 0)
  let order := lo (s.arg 0)
  let modulo := (s.arg 1).toNat
  if prescaler ∈ prescalerSettings ∧ modulo ≠ 0 ∧ order ≤ 1 then
    { s with swt := s.swt.configured prescaler modulo (order == 1) }.completeBare .ok
  else s.completeBare .badArg

/-- SWEEP_SET (R153). -/
def execSweepSet (ph : Phase) (s : State) : Host.Outcome State Fault Refusal :=
  .next (hostCommand .sweepSet ph runSweepSet s)

/-- REFUSAL_READ's event (R166). -/
def runRefusalRead (s : State) : State :=
  { s with ntu := s.ntu.clearRefusals }.complete .ok (refusedWord0 s.ntu.first) (refusedWord1 s.ntu.first)
    (refusedWord0 s.ntu.latest) (refusedWord1 s.ntu.latest)

/-- REFUSAL_READ (R166). -/
def execRefusalRead (ph : Phase) (s : State) : Host.Outcome State Fault Refusal :=
  .next (hostCommand .refusalRead ph runRefusalRead s)

end Sys2Proof.Machine
end

