-- ==== Sys2Proof/Machine/Window.lean ====
section
/-! DEFINITION. Writes and reads of the register window that are not commands of the catalogue (R163, R164, R169, R171,
R188). While RESET is asserted every write is ignored and ISTAT reads 0 (R183, R188). -/

namespace Sys2Proof.Machine

/-- A write to CMD of a word that names no command (R169, R188): completed at once with UNKNOWN, or a collision. -/
def unknownCommandStep (w : Word) (s : State) : State :=
  if s.pins.reset || namesCommand w then s
  else if s.busy then s.collided
  else s.latch.completeBare .unknown

/-- UNKNOWN_COMMAND (R169). -/
def execUnknownCommand (w : Word) (s : State) : Host.Outcome State Fault Refusal := .next (unknownCommandStep w s)

/-- A write of `w` to CMD collides (R171): BUSY is 1 and it is not ABORT or SOFT_RESET during a RETIRE_SCOPE. -/
def State.collides (s : State) (w : Word) : Bool :=
  s.busy && !(s.walkInProgress && (w == abortCode || w == softResetCode))

/-- COLLISION: a write of `w` to CMD that collides. -/
def collisionStep (w : Word) (s : State) : State :=
  if s.pins.reset then s else if s.collides w then s.collided else s

/-- COLLISION (R171). -/
def execCollision (w : Word) (s : State) : Host.Outcome State Fault Refusal := .next (collisionStep w s)

/-- ISTAT_READ: the word on the data lines (log 14) and, unless RESET is asserted, the read marks (R163). -/
def istatReadStep (s : State) : State :=
  { s with
    cpt := { s.cpt with dataOut := s.readWord 10 }
    ntu := if s.pins.reset then s.ntu else s.ntu.markRead }

/-- ISTAT_READ (R163). -/
def execIstatRead (s : State) : Host.Outcome State Fault Refusal := .next (istatReadStep s)

/-- A write of ISTAT. -/
def istatWriteStep (w : Word) (s : State) : State :=
  if s.pins.reset then s else { s with ntu := s.ntu.writeStatus w }

/-- ISTAT_WRITE (R163). -/
def execIstatWrite (w : Word) (s : State) : Host.Outcome State Fault Refusal := .next (istatWriteStep w s)

/-- A write of IEN. -/
def ienWriteStep (w : Word) (s : State) : State :=
  if s.pins.reset then s else { s with ntu := s.ntu.writeEnables w }

/-- IEN_WRITE (R164). -/
def execIenWrite (w : Word) (s : State) : Host.Outcome State Fault Refusal := .next (ienWriteStep w s)

/-- A write of CMD (R169, R171, R188): the write of the command that the word names, or of a code that names none. -/
def commandWriteStep (w : Word) (s : State) : State :=
  match commandOf w with
  | none => unknownCommandStep w s
  | some .abort => if s.pins.reset then s else s.writeAbort
  | some .softReset => if s.pins.reset then s else s.writeReset
  | some .retireScope => retireScopeStep .write s
  | some c => hostCommand c .write id s

/-- A write of ARG0..ARG3 at window words 1 to 4 (R171, R187); the words that ignore writes have no such register. -/
def argumentWriteStep (n : Fin 16) (w : Word) (s : State) : State :=
  if s.pins.reset then s
  else if h : 1 ≤ n.val ∧ n.val ≤ 4 then
    { s with cpt := { s.cpt with args := upd s.cpt.args ⟨n.val - 1, by omega⟩ w } }
  else s

/-- A write of a window word (R187, R188). -/
def registerWriteStep (n : Fin 16) (w : Word) (s : State) : State :=
  match n.val with
  | 0 => commandWriteStep w s
  | 10 => istatWriteStep w s
  | 11 => ienWriteStep w s
  | _ => argumentWriteStep n w s

/-- REGISTER_WRITE (R188). -/
def execRegisterWrite (n : Fin 16) (w : Word) (s : State) : Host.Outcome State Fault Refusal :=
  .next (registerWriteStep n w s)

end Sys2Proof.Machine
end

