-- ==== Sys2Proof/Machine/Dispatch.lean ====
section
/-! DEFINITION. The meaning of each command: one arm per row of spec/opcode_table.json. -/

namespace Sys2Proof.Machine

def exec (i : Instr) (s : State) : Host.Outcome State Fault Refusal :=
  match i with
  | .leaseRead ph => Sys2Proof.Machine.execLeaseRead ph s
  | .leaseFind ph => Sys2Proof.Machine.execLeaseFind ph s
  | .leaseCreate ph => Sys2Proof.Machine.execLeaseCreate ph s
  | .leaseModify ph => Sys2Proof.Machine.execLeaseModify ph s
  | .leaseRetire ph => Sys2Proof.Machine.execLeaseRetire ph s
  | .noticeTake ph => Sys2Proof.Machine.execNoticeTake ph s
  | .slotRead ph => Sys2Proof.Machine.execSlotRead ph s
  | .slotReserve ph => Sys2Proof.Machine.execSlotReserve ph s
  | .slotRelease ph => Sys2Proof.Machine.execSlotRelease ph s
  | .leaseMove ph => Sys2Proof.Machine.execLeaseMove ph s
  | .poolRead ph => Sys2Proof.Machine.execPoolRead ph s
  | .poolSet ph => Sys2Proof.Machine.execPoolSet ph s
  | .monitorSet ph => Sys2Proof.Machine.execMonitorSet ph s
  | .monitorClear ph => Sys2Proof.Machine.execMonitorClear ph s
  | .groupRead ph => Sys2Proof.Machine.execGroupRead ph s
  | .groupWrite ph => Sys2Proof.Machine.execGroupWrite ph s
  | .listenerRead ph => Sys2Proof.Machine.execListenerRead ph s
  | .portRead ph => Sys2Proof.Machine.execPortRead ph s
  | .portSet ph => Sys2Proof.Machine.execPortSet ph s
  | .meterRead ph => Sys2Proof.Machine.execMeterRead ph s
  | .meterSet ph => Sys2Proof.Machine.execMeterSet ph s
  | .countersRead ph => Sys2Proof.Machine.execCountersRead ph s
  | .highwayRead ph => Sys2Proof.Machine.execHighwayRead ph s
  | .highwaySet ph => Sys2Proof.Machine.execHighwaySet ph s
  | .sweepRead ph => Sys2Proof.Machine.execSweepRead ph s
  | .sweepSet ph => Sys2Proof.Machine.execSweepSet ph s
  | .refusalRead ph => Sys2Proof.Machine.execRefusalRead ph s
  | .retireScope ph => Sys2Proof.Machine.execRetireScope ph s
  | .walkVisit => Sys2Proof.Machine.execWalkVisit s
  | .abort => Sys2Proof.Machine.execAbort s
  | .walkEnding => Sys2Proof.Machine.execWalkEnding s
  | .softReset => Sys2Proof.Machine.execSoftReset s
  | .unknownCommand w => Sys2Proof.Machine.execUnknownCommand w s
  | .collision w => Sys2Proof.Machine.execCollision w s
  | .istatRead => Sys2Proof.Machine.execIstatRead s
  | .istatWrite w => Sys2Proof.Machine.execIstatWrite w s
  | .ienWrite w => Sys2Proof.Machine.execIenWrite w s
  | .registerWrite word w => Sys2Proof.Machine.execRegisterWrite word w s
  | .headerByteInGather p b => Sys2Proof.Machine.execHeaderByteInGather p b s
  | .messageComplete p b => Sys2Proof.Machine.execMessageComplete p b s
  | .serving => Sys2Proof.Machine.execServing s
  | .replySent p => Sys2Proof.Machine.execReplySent p s
  | .lineFrame p rx alarm pulse cch => Sys2Proof.Machine.execLineFrame p rx alarm pulse cch s
  | .frameStart => Sys2Proof.Machine.execFrameStart s
  | .committedRefill p => Sys2Proof.Machine.execCommittedRefill p s
  | .excessRefill p => Sys2Proof.Machine.execExcessRefill p s
  | .faultAsserted p => Sys2Proof.Machine.execFaultAsserted p s
  | .faultCleared p => Sys2Proof.Machine.execFaultCleared p s
  | .holdExpiry p => Sys2Proof.Machine.execHoldExpiry p s
  | .recoveryExpiry p => Sys2Proof.Machine.execRecoveryExpiry p s
  | .sweepTick => Sys2Proof.Machine.execSweepTick s
  | .lost p => Sys2Proof.Machine.execLost p s
  | .quarantinePhase => Sys2Proof.Machine.execQuarantinePhase s
  | .guardExpiry sl => Sys2Proof.Machine.execGuardExpiry sl s
  | .sweepVisit => Sys2Proof.Machine.execSweepVisit s
  | .leaseExpiry => Sys2Proof.Machine.execLeaseExpiry s
  | .highwayPulse t hwIn => Sys2Proof.Machine.execHighwayPulse t hwIn s
  | .pulseMissing hwIn => Sys2Proof.Machine.execPulseMissing hwIn s
  | .holdAsserted => Sys2Proof.Machine.execHoldAsserted s
  | .holdReleased => Sys2Proof.Machine.execHoldReleased s
  | .resetAsserted => Sys2Proof.Machine.execResetAsserted s
  | .resetReleased => Sys2Proof.Machine.execResetReleased s
  | .headerByteInHunt p b => Sys2Proof.Machine.execHeaderByteInHunt p b s
  | .continuationByteInGather p b => Sys2Proof.Machine.execContinuationByteInGather p b s

end Sys2Proof.Machine
end

