-- ==== Sys2Proof/Safety.lean ====
section
/-! DEFINITION. What it means for the part to go on, and the properties of a state that every step keeps. -/

namespace Sys2Proof.Machine

/-- A step of the state answers a next state. -/
def State.Goes (s : State) : Prop := ∃ t, step s = .next t

/-! ### Capacities of a port (R79, R81, R89, R97) -/

/-- The seven counters lie in 0..65535 (R89). -/
structure Counters.Bounded (k : Counters) : Prop where
  checkErr : k.checkErr ≤ 65535
  fragment : k.fragment ≤ 65535
  overrun : k.overrun ≤ 65535
  refused : k.refused ≤ 65535
  rate : k.rate ≤ 65535
  tableFull : k.tableFull ≤ 65535
  replyLost : k.replyLost ≤ 65535

/-- The reply queue holds at most 8 replies (R81), buffer A holds a message whenever B does (R79), the counters are in range
(R89) and no bucket holds more tokens than its capacity (R97). -/
structure Port.Bounded (x : Port) : Prop where
  queue : x.cch.queue.length ≤ 8
  buffers : x.cch.bufB.isSome → x.cch.bufA.isSome
  counters : x.cch.counters.Bounded
  committed : x.cmt.committed ≤ x.cmt.cbs
  excess : x.cmt.excess ≤ x.cmt.ebs

/-- Every port keeps its capacities, and the two part-wide counters are in range (R132, R155). -/
structure State.Bounded (s : State) : Prop where
  port : ∀ p : PortNo, s.ports[p].Bounded
  realign : s.hwi.realign ≤ 65535
  overrun : s.swt.overrun ≤ 65535

/-! ### Groups and the attention list (R55, R60, R61, R158) -/

/-- A group's listener list holds exactly its live LISTEN leases, each once, and at most 16 of them (R60); its talker is its
one live TALK lease (R55). -/
structure Lsv.Grouped (v : Lsv) : Prop where
  once : ∀ g : GroupNo, v.groups[g].listeners.Nodup
  lists : ∀ (g : GroupNo) (l : LeaseNo), l ∈ v.groups[g].listeners ↔
    v.leases[l].live ∧ v.leases[l].kind = .listen ∧ v.leases[l].group = g
  short : ∀ g : GroupNo, v.groups[g].listeners.length ≤ 16
  cap : ∀ g : GroupNo, v.groups[g].listenerCap ≤ 16
  talker : ∀ (g : GroupNo) (l : LeaseNo), v.groups[g].talker = some l ↔
    v.leases[l].live ∧ v.leases[l].kind = .talk ∧ v.leases[l].group = g

/-- A live listener that is not CONDITIONED is ACTIVE when its group has a talker and WAITING when it has none, and only a
listener is WAITING (R61). -/
structure Lsv.Follows (v : Lsv) : Prop where
  active : ∀ l : LeaseNo, v.leases[l].kind = .listen → v.leases[l].state = .active →
    v.groups[v.leases[l].group].talker.isSome
  waiting : ∀ l : LeaseNo, v.leases[l].state = .waiting →
    v.leases[l].kind = .listen ∧ v.groups[v.leases[l].group].talker = none

/-- The attention list holds a lease number at most once, and exactly while the lease's notice set is non-empty (R158); a
FREE record has no notices (R2). -/
structure Lsv.Attended (v : Lsv) : Prop where
  once : v.attention.Nodup
  exact : ∀ l : LeaseNo, l ∈ v.attention ↔ v.leases[l].notices ≠ 0
  free : ∀ l : LeaseNo, v.leases[l].state = .free → v.leases[l].notices = 0

/-! ### The channel map (R2, R12) -/

/-- The channel-map entry of a live lease's port and channel names the lease, every entry names a live lease of its own port
and channel (R12), and a FREE record has the cleared values (R2). -/
structure Lsv.Mapped (v : Lsv) : Prop where
  bound : ∀ l : LeaseNo, v.leases[l].live → v.entry v.leases[l].port v.leases[l].channel = some l
  names : ∀ (p : PortNo) (c : ChanNo) (l : LeaseNo), v.entry p c = some l →
    v.leases[l].live ∧ v.leases[l].port = p ∧ v.leases[l].channel = c
  free : ∀ l : LeaseNo, v.leases[l].state = .free → v.leases[l] = Lease.cleared

/-! ### Conditioned leases (R117) -/

/-- A live lease is CONDITIONED exactly when its port's condition is FAULTED or RECOVERING (R117). -/
def State.Conditioned (s : State) : Prop :=
  ∀ l : LeaseNo, s.lsv.leases[l].live →
    (s.lsv.leases[l].state = .conditioned ↔ s.ports[s.lsv.leases[l].port].lpi.faulty)

/-! ### Slots (R4, R30 to R33, R46) -/

/-- The free list holds each FREE slot once and nothing else (R32), the quarantine list each QUARANTINE slot (R33), a slot is
HELD exactly by the live lease that names it (R4, R30) and has a holder and a home exactly then (R31), a live DUPLEX or TALK
lease has a slot and a LISTEN lease none (R4), guards lie in 1..15 (R33), and while the tap is ON its target is RESERVED and
its source is live (R46). -/
structure Lsv.Slotted (v : Lsv) : Prop where
  freeOnce : v.freeList.Nodup
  freeExact : ∀ sl : SlotNo, sl ∈ v.freeList ↔ v.slots[sl].state = .free
  quarantineOnce : v.quarantine.Nodup
  quarantineExact : ∀ sl : SlotNo, sl ∈ v.quarantine ↔ v.slots[sl].state = .quarantine
  guards : ∀ sl : SlotNo, v.slots[sl].state = .quarantine → ∃ n, v.slots[sl].guard = some n ∧ 1 ≤ n ∧ n ≤ 15
  setting : v.guardSetting ≤ 15
  holder : ∀ (sl : SlotNo) (l : LeaseNo), v.slots[sl].holder = some l → v.leases[l].live ∧ v.leases[l].slot = some sl
  held : ∀ (l : LeaseNo) (sl : SlotNo), v.leases[l].slot = some sl →
    v.slots[sl].state = .held ∧ v.slots[sl].holder = some l
  occupied : ∀ sl : SlotNo, v.slots[sl].state = .held → v.slots[sl].holder.isSome ∧ v.slots[sl].home.isSome
  vacant : ∀ sl : SlotNo, v.slots[sl].state ≠ .held → v.slots[sl].holder = none ∧ v.slots[sl].home = none
  needs : ∀ l : LeaseNo, v.leases[l].live → v.leases[l].kind ≠ .listen → v.leases[l].slot.isSome
  listens : ∀ l : LeaseNo, v.leases[l].live → v.leases[l].kind = .listen → v.leases[l].slot = none
  target : v.tap.state = .on → ∃ sl : SlotNo, v.tap.target = some sl ∧ v.slots[sl].state = .reserved
  source : v.tap.state = .on → ∃ l : LeaseNo, v.tap.source = some l ∧ v.leases[l].live

/-! ### Ports and their leases (R13, R72, R78, R80, R85) -/

/-- No message and no reply of the Claim Channel is in progress, and none is buffered. -/
structure Cch.Idle (c : Cch) : Prop where
  hunt : c.assembly = .hunt
  bufA : c.bufA = none
  bufB : c.bufB = none
  sent : c.sent = 0

/-- A port that does not answer (CLOSED, FAULTED or RECOVERING) has an idle Claim Channel and an empty reply queue, and a port
whose format is not yet the one in force in the frame has an idle Claim Channel: the signalling channel does not move in the
middle of a message or a reply (R71, R72). -/
structure State.Shut (s : State) : Prop where
  silent : ∀ p : PortNo, s.ports[p].lpi.answers = false → s.ports[p].cch.Idle ∧ s.ports[p].cch.queue = []
  reformatted : ∀ p : PortNo, s.psw.formats[p] ≠ s.ports[p].lpi.format → s.ports[p].cch.Idle

/-- Every live lease's channel is a bearer channel of its port's format, and its port is not CLOSED (R13). -/
def State.Placed (s : State) : Prop :=
  ∀ l : LeaseNo, s.lsv.leases[l].live →
    s.ports[s.lsv.leases[l].port].lpi.admin ≠ .closed ∧
      s.ports[s.lsv.leases[l].port].lpi.format.bearer s.lsv.leases[l].channel

end Sys2Proof.Machine
end

