-- ==== Sys2Proof/Certificates/Slice0/Obligations.lean ====
section
/-! DEFINITION. The statements for the provers. The first part is their vocabulary, written from the spec: the fields of the
window's words, the taking and the completion of a host command, and what one serving leaves. -/

namespace Sys2Proof.Spec

open Sys2Proof.Machine

/-! ### Words (R188, R189) -/

/-- The word whose fields are given as (lowest bit, value). -/
def fields (fs : List (Nat × Nat)) : Word := BitVec.ofNat 16 (fs.foldr (fun f n => f.2 * 2 ^ f.1 + n) 0)

/-- The code of a value in a list of codes that are "in order from 0" (R189). -/
def code {α : Type} [DecidableEq α] (codes : List α) (x : α) : Nat := codes.idxOf x

/-- The state code of a lease (R189). -/
def stateCode (st : LeaseState) : Nat := code [.free, .active, .waiting, .conditioned, .retired] st

/-- The state code of a slot (R189). -/
def slotCode (st : SlotState) : Nat := code [.free, .quarantine, .reserved, .held] st

/-- A flag's bit (R189). -/
def bit (b : Bool) : Nat := if b then 1 else 0

/-- A number, or the value written for none. -/
def numberOr {n : Nat} (x : Option (Fin n)) (absent : Nat) : Nat :=
  match x with
  | some i => i.val
  | none => absent

/-- RES0 of LEASE_READ and NOTICE_TAKE (12 §12.5). -/
def leaseWord (r : Lease) : Word :=
  fields [(13, stateCode r.state), (11, code [LeaseKind.duplex, .talk, .listen] r.kind),
    (10, code [Origin.signaled, .host] r.origin), (9, bit r.pinned), (7, r.port.val), (5, r.cls.val), (0, r.channel.val)]

/-- RES1 of both. -/
def slotWord (r : Lease) : Word := fields [(8, numberOr r.slot 0xFF), (0, r.idle)]

/-- RES3 of both; the code of an absent cause is 0. -/
def groupWord (r : Lease) : Word :=
  fields [(11, r.group.val),
    (8, code [none, some RetireCause.lineRelease, some .host, some .scope, some .expired, some .preempted, some .linkLost] r.cause),
    (0, r.notices.toNat)]

/-- The two words of a refusal entry (12 §12.5). -/
def entryWords : Option Refused → Word × Word
  | none => (0, 0)
  | some e =>
    (fields [(15, 1), (8, e.port.val), (6, e.lkind.val), (0, e.channel.val)],
      fields [(8, e.tag.val), (0, e.reason.toCode.val)])

/-! ### The taking and the completion of a host command (R169, R170) -/

/-- The row of a host command, in one of its three forms. ABORT and SOFT_RESET have one row for the forms `whole` and `take`,
and are written alone by REGISTER_WRITE of their codes (log 5). -/
def hostRow : HostCmd → Phase → Instr
  | .leaseRead => .leaseRead | .leaseFind => .leaseFind | .leaseCreate => .leaseCreate | .leaseModify => .leaseModify
  | .leaseRetire => .leaseRetire | .noticeTake => .noticeTake | .slotRead => .slotRead | .slotReserve => .slotReserve
  | .slotRelease => .slotRelease | .leaseMove => .leaseMove | .poolRead => .poolRead | .poolSet => .poolSet
  | .monitorSet => .monitorSet | .monitorClear => .monitorClear | .groupRead => .groupRead
  | .groupWrite => .groupWrite | .listenerRead => .listenerRead | .portRead => .portRead | .portSet => .portSet
  | .meterRead => .meterRead | .meterSet => .meterSet | .countersRead => .countersRead
  | .highwayRead => .highwayRead | .highwaySet => .highwaySet | .sweepRead => .sweepRead | .sweepSet => .sweepSet
  | .refusalRead => .refusalRead | .retireScope => .retireScope
  | .abort => fun | .write => .registerWrite 0 0x31 | .whole | .take => .abort
  | .softReset => fun | .write => .registerWrite 0 0x3E | .whole | .take => .softReset

/-- The command is carried out now: it is written to CMD with BUSY 0 (form `whole`), or it is the command in progress and
its block takes it (form `take`). -/
def Ready (c : HostCmd) (ph : Phase) (s : State) : Prop :=
  s.pins.reset = false ∧
    match ph with
    | .whole => s.cpt.inProgress = none
    | .write => False
    | .take => s.cpt.inProgress = some c

/-- The argument words the command runs on: those its write latches, or latched (R169). -/
def args (ph : Phase) (s : State) : Vector Word 4 :=
  match ph with
  | .take => s.cpt.latched
  | .whole | .write => s.cpt.args

/-- An argument as a number. -/
def arg (ph : Phase) (s : State) (i : Fin 4) : Nat := (args ph s)[i].toNat

/-- Bits 15..8 of an argument. -/
def argHigh (ph : Phase) (s : State) (i : Fin 4) : Nat := arg ph s i / 256

/-- Bits 7..0 of an argument. -/
def argLow (ph : Phase) (s : State) (i : Fin 4) : Nat := arg ph s i % 256

/-- One bit of an argument. -/
def argBit (ph : Phase) (s : State) (i : Fin 4) (b : Nat) : Bool := (args ph s)[i].getLsbD b

/-- A setting event of the ISTAT bit at position `b`: the bit is 1 and its read mark no (R162, R163). -/
def event (b : Nat) (n : Ntu) : Ntu :=
  { n with status := n.status ||| (1#7 <<< b), marks := n.marks &&& ~~~(1#7 <<< b) }

/-- The state after the completion of a command whose effects have left the state `u` (R169, R170): the arguments are
latched, COLLIDE is 0 from the taking on, the result words and the last result are written, BUSY is 0 and DONE is set. -/
def done (ph : Phase) (result : ResultCode) (w0 w1 w2 w3 : Word) (u : State) : State :=
  { u with
    cpt := { u.cpt with
      latched := args ph u
      collide := (match ph with | .take => u.cpt.collide | .whole | .write => false)
      res := #v[w0, w1, w2, w3], last := result, inProgress := none }
    ntu := event 1 u.ntu }

/-- A completion without result words. -/
def done0 (ph : Phase) (result : ResultCode) (u : State) : State := done ph result 0 0 0 0 u

/-- A live record (01 §1.1). -/
abbrev Live (r : Lease) : Prop := r.state = .active ∨ r.state = .waiting ∨ r.state = .conditioned

/-- Slot `sl` is the target of a tap in ON (R46). -/
def TapTarget (v : Lsv) (sl : SlotNo) : Prop := v.tap.state = .on ∧ v.tap.target = some sl

/-- Live leases that meet a test, in ascending order. -/
def liveLeases (v : Lsv) (t : Lease → Bool) : List LeaseNo :=
  (List.finRange 128).filter fun l =>
    (v.leases[l].state == .active || v.leases[l].state == .waiting || v.leases[l].state == .conditioned) && t v.leases[l]

/-- The state with other tables. -/
def withTables (s : State) (v : Lsv) : State := { s with lsv := v }

/-- The state with record `l` replaced. -/
def withLease (s : State) (l : LeaseNo) (r : Lease) : State := withTables s { s.lsv with leases := upd s.lsv.leases l r }

/-- The state with slot record `sl` replaced. -/
def withSlot (s : State) (sl : SlotNo) (r : SlotRec) : State := withTables s { s.lsv with slots := upd s.lsv.slots sl r }

/-- The state with port `p` replaced. -/
def withPort (s : State) (p : PortNo) (x : Port) : State := { s with ports := upd s.ports p x }

end Sys2Proof.Spec

open Sys2Proof Sys2Proof.Machine Sys2Proof.Spec

/-! ### Steps and the taking of host commands -/

/-- A step takes the command at the front of the queue, and an empty queue idles (log 1). -/
def Obligations.StepTakesFront : Prop :=
  (∀ (c : Instr) (rest : List Instr) (s : State),
    step { s with pending := c :: rest } = exec c { s with pending := rest }) ∧
  ∀ s : State, s.pending = [] → step s = .next s

/-- Every command answers a next state and leaves the queue alone: none faults and none is refused. -/
def Obligations.EveryCommandAnswers : Prop :=
  ∀ (c : Instr) (s : State), ∃ t, exec c s = .next t ∧ t.pending = s.pending

/-- The write of CMD (R169, R171; forms log 5): with BUSY 0 it latches the arguments, sets BUSY and clears COLLIDE, and a
RETIRE_SCOPE also clears the walker's abort and submits the walk start (R175); with BUSY 1 it sets COLLIDE alone, but for
ABORT and SOFT_RESET during a RETIRE_SCOPE (AbortEndsWalk, SoftResetByMode). The outcome row COLLISION does the same for any
word, outside the two exceptions of R171. The taking of a command that is not in progress changes nothing (log 2); the rows
ABORT and SOFT_RESET take the one in progress, and write CMD where none is (log 5). The mark
resetWaits of a SOFT_RESET that waits for a walk's ending is the model's (log 6). -/
def Obligations.WriteOfCommand : Prop :=
  ∀ s : State, s.pins.reset = false →
    (∀ c : HostCmd, s.cpt.inProgress = none → c ≠ .retireScope → c ≠ .softReset →
      exec (hostRow c .write) s =
        .next { s with cpt := { s.cpt with latched := s.cpt.args, collide := false, inProgress := some c } }) ∧
    (s.cpt.inProgress = none →
      exec (hostRow .softReset .write) s =
        .next { s with cpt := { s.cpt with
          latched := s.cpt.args, collide := false, inProgress := some .softReset
          walker := { s.cpt.walker with resetWaits := false } } }) ∧
    (s.cpt.inProgress = none →
      exec (hostRow .retireScope .write) s =
        .next { s with cpt := { s.cpt with
          latched := s.cpt.args, collide := false, inProgress := some .retireScope
          walker := { s.cpt.walker with starting := true, abort := false, resetWaits := false } } }) ∧
    (∀ c : HostCmd, s.cpt.inProgress ≠ none →
      (s.cpt.inProgress ≠ some .retireScope ∨ (c ≠ .abort ∧ c ≠ .softReset)) →
      exec (hostRow c .write) s = .next { s with cpt := { s.cpt with collide := true } } ∧
      (s.cpt.inProgress ≠ some c ∨ (c ≠ .abort ∧ c ≠ .softReset) →
        exec (hostRow c .whole) s = .next { s with cpt := { s.cpt with collide := true } })) ∧
    (∀ w : Word, s.cpt.inProgress ≠ none → (s.cpt.inProgress ≠ some .retireScope ∨ (w ≠ 0x31 ∧ w ≠ 0x3E)) →
      exec (.collision w) s = .next { s with cpt := { s.cpt with collide := true } }) ∧
    (∀ c : HostCmd, s.cpt.inProgress ≠ some c → c ≠ .retireScope → c ≠ .abort → c ≠ .softReset →
      exec (hostRow c .take) s = .next s) ∧
    (s.cpt.walker.starting = false → exec (hostRow .retireScope .take) s = .next s)

/-! ### Lease commands -/

/-- LEASE_READ (R23): the whole record in the layout of 12 §12.5, with OK in every state; nothing else changes. -/
def Obligations.LeaseReadReportsRecord : Prop :=
  ∀ (ph : Phase) (s : State), Ready .leaseRead ph s →
    (∀ l : LeaseNo, arg ph s 0 = l.val →
      exec (.leaseRead ph) s =
        .next (done ph .ok (leaseWord s.lsv.leases[l]) (slotWord s.lsv.leases[l])
          (fields [(13, bit s.lsv.leases[l].tag.isSome), (9, numberOr s.lsv.leases[l].tag 0),
            (8, bit s.lsv.leases[l].code.isSome), (0, (s.lsv.leases[l].code.getD 0).toNat)])
          (groupWord s.lsv.leases[l]) s)) ∧
    (127 < arg ph s 0 → exec (.leaseRead ph) s = .next (done0 ph .badArg s))

/-- LEASE_FIND (R14). The last two clauses, that a channel that is no bearer channel gives NONE and that no RETIRED record is
found, hold in the states that the invariants of the channel map and of the bound channels describe. -/
def Obligations.LeaseFindReadsChannelMap : Prop :=
  ∀ (ph : Phase) (s : State), Ready .leaseFind ph s →
    (3 < argHigh ph s 0 ∨ 31 < argLow ph s 0 → exec (.leaseFind ph) s = .next (done0 ph .badArg s)) ∧
    (∀ (p : PortNo) (c : ChanNo), argHigh ph s 0 = p.val → argLow ph s 0 = c.val →
      (∀ l : LeaseNo, s.lsv.chanMap[p][c] = some l →
        exec (.leaseFind ph) s = .next (done ph .ok (fields [(0, l.val)]) 0 0 0 s) ∧
        (s.lsv.Mapped → s.lsv.leases[l].state ≠ .retired)) ∧
      (s.lsv.chanMap[p][c] = none → exec (.leaseFind ph) s = .next (done0 ph .none s)) ∧
      (s.lsv.Mapped → s.Placed → s.ports[p].lpi.format.bearer c = false →
        exec (.leaseFind ph) s = .next (done0 ph .none s)))

/-- LEASE_MODIFY (R26): NOT_LIVE for a FREE or RETIRED record, BAD_ARG for a class or an action out of range, else the three
fields are replaced, the idle count is 0 if pinned goes from yes to no, and nothing else changes. Which check comes first is
the model's choice (log 16). -/
def Obligations.LeaseModifyReplacesAttributes : Prop :=
  ∀ (ph : Phase) (s : State), Ready .leaseModify ph s →
    (127 < arg ph s 0 → exec (.leaseModify ph) s = .next (done0 ph .badArg s)) ∧
    ∀ l : LeaseNo, arg ph s 0 = l.val →
      (¬ Live s.lsv.leases[l] → exec (.leaseModify ph) s = .next (done0 ph .notLive s)) ∧
      (Live s.lsv.leases[l] → 3 < argHigh ph s 1 ∨ 1 < argHigh ph s 2 →
        exec (.leaseModify ph) s = .next (done0 ph .badArg s)) ∧
      (∀ q : ClassNo, Live s.lsv.leases[l] → argHigh ph s 1 = q.val → argHigh ph s 2 ≤ 1 →
        exec (.leaseModify ph) s =
          .next (done0 ph .ok (withLease s l { s.lsv.leases[l] with
            cls := q
            pinned := argBit ph s 1 0
            code := if argHigh ph s 2 = 1 then some (BitVec.ofNat 8 (argLow ph s 2)) else none
            idle := if s.lsv.leases[l].pinned = true ∧ argBit ph s 1 0 = false then 0 else s.lsv.leases[l].idle })))

/-- LEASE_RETIRE (R27) by the state of the record and the purge flag. `retire` is the common retirement, with cause HOST,
and `afterTables` places its replies and sets the TAP bit; what both do is stated by RetirementEndsLease and
RepliesPlacedOrDropped. -/
def Obligations.LeaseRetireByState : Prop :=
  ∀ (ph : Phase) (s : State), Ready .leaseRetire ph s →
    (127 < arg ph s 0 → exec (.leaseRetire ph) s = .next (done0 ph .badArg s)) ∧
    ∀ l : LeaseNo, arg ph s 0 = l.val →
      (Live s.lsv.leases[l] → argBit ph s 1 0 = false →
        exec (.leaseRetire ph) s =
          .next (done ph .ok
            (fields [(0, stateCode (s.lsv.retire s.cpt.walker.scope .host false l).lsv.leases[l].state)]) 0 0 0
            (s.afterTables none (s.lsv.retire s.cpt.walker.scope .host false l)))) ∧
      (Live s.lsv.leases[l] → argBit ph s 1 0 = true →
        ∀ t : State, t = s.afterTables none (s.lsv.retire s.cpt.walker.scope .host false l) →
          exec (.leaseRetire ph) s =
            .next (done0 ph .ok (withTables t { t.lsv with
              leases := upd t.lsv.leases l Lease.cleared, attention := t.lsv.attention.erase l }))) ∧
      (s.lsv.leases[l].state = .retired → argBit ph s 1 0 = true →
        exec (.leaseRetire ph) s =
          .next (done0 ph .ok (withTables s { s.lsv with
            leases := upd s.lsv.leases l Lease.cleared, attention := s.lsv.attention.erase l }))) ∧
      (s.lsv.leases[l].state = .retired → argBit ph s 1 0 = false →
        exec (.leaseRetire ph) s = .next (done ph .notLive (fields [(0, 4)]) 0 0 0 s)) ∧
      (s.lsv.leases[l].state = .free → exec (.leaseRetire ph) s = .next (done0 ph .notLive s))

/-- NOTICE_TAKE (R159, R11): EMPTY with an empty attention list; otherwise the head leaves the list, its record is reported,
its notice set is emptied, and a RETIRED record becomes FREE with the cleared values. -/
def Obligations.NoticeTakeServesHead : Prop :=
  ∀ (ph : Phase) (s : State), Ready .noticeTake ph s →
    (s.lsv.attention = [] → exec (.noticeTake ph) s = .next (done0 ph .empty s)) ∧
    ∀ (l : LeaseNo) (rest : List LeaseNo), s.lsv.attention = l :: rest →
      exec (.noticeTake ph) s =
        .next (done ph .ok (leaseWord s.lsv.leases[l]) (slotWord s.lsv.leases[l])
          (fields [(13, bit s.lsv.leases[l].tag.isSome), (9, numberOr s.lsv.leases[l].tag 0), (0, l.val)])
          (groupWord s.lsv.leases[l])
          (withTables s { s.lsv with
            leases := upd s.lsv.leases l
              (if s.lsv.leases[l].state = .retired then Lease.cleared else { s.lsv.leases[l] with notices := 0 })
            attention := rest }))

namespace Sys2Proof.Spec

/-- The tables after lease `l`, which holds slot `o`, has moved to slot `sl` (R42): `sl` is HELD by it, with home POOL and out
of the free list if it was FREE, else with home RESERVED; and `o` is given up by its home. -/
def Moved (v w : Lsv) (l : LeaseNo) (o sl : SlotNo) : Prop :=
  ∃ (home : Home) (free : List SlotNo) (slots : Vector SlotRec 128),
    ((v.slots[sl].state = .free ∧ home = .pool ∧ free = v.freeList.erase sl) ∨
      (v.slots[sl].state = .reserved ∧ home = .reserved ∧ free = v.freeList)) ∧
    slots = upd v.slots sl { state := .held, home := some home, holder := some l, guard := none } ∧
    (v.slots[o].home = some .reserved →
      w = { v with
        leases := upd v.leases l { v.leases[l] with slot := some sl }
        slots := upd slots o { state := .reserved, home := none, holder := none, guard := none }
        freeList := free }) ∧
    (v.slots[o].home = some .pool → v.guardSetting ≠ 0 →
      w = { v with
        leases := upd v.leases l { v.leases[l] with slot := some sl }
        slots := upd slots o { state := .quarantine, home := none, holder := none, guard := some v.guardSetting }
        freeList := free, quarantine := v.quarantine ++ [o] }) ∧
    (v.slots[o].home = some .pool → v.guardSetting = 0 →
      w = { v with
        leases := upd v.leases l { v.leases[l] with slot := some sl }
        slots := upd slots o { state := .free, home := none, holder := none, guard := none }
        freeList := free ++ [o] })

end Sys2Proof.Spec

/-- LEASE_MOVE (R41, R42): the checks in order, each the first failure, and the move: the new slot is taken, the lease names
it, the old slot is given up by its home, and a SIGNALED lease is sent STATUS, which in place of the lease kind of R42 carries
the state (R86; log 23). A live DUPLEX or TALK lease holds a slot that is HELD with a home (R4, R31). -/
def Obligations.LeaseMoveChangesSlot : Prop :=
  ∀ (ph : Phase) (s : State), Ready .leaseMove ph s →
    (127 < arg ph s 0 ∨ (127 < arg ph s 1 ∧ arg ph s 1 ≠ 0xFF) →
      exec (.leaseMove ph) s = .next (done0 ph .badArg s)) ∧
    ∀ l : LeaseNo, arg ph s 0 = l.val → arg ph s 1 ≤ 127 ∨ arg ph s 1 = 0xFF →
      (¬ Live s.lsv.leases[l] → exec (.leaseMove ph) s = .next (done0 ph .notLive s)) ∧
      (Live s.lsv.leases[l] → s.lsv.leases[l].kind = .listen →
        exec (.leaseMove ph) s = .next (done0 ph .badArg s)) ∧
      (Live s.lsv.leases[l] → s.lsv.leases[l].kind ≠ .listen →
        (arg ph s 1 = 0xFF → s.lsv.freeList = [] → exec (.leaseMove ph) s = .next (done0 ph .inUse s)) ∧
        (∀ sl : SlotNo, arg ph s 1 = sl.val →
          (TapTarget s.lsv sl → exec (.leaseMove ph) s = .next (done0 ph .tapBusy s)) ∧
          (¬ TapTarget s.lsv sl → s.lsv.slots[sl].state = .quarantine →
            exec (.leaseMove ph) s = .next (done0 ph .slotGuard s)) ∧
          (¬ TapTarget s.lsv sl → s.lsv.slots[sl].state = .held →
            exec (.leaseMove ph) s = .next (done0 ph .inUse s))) ∧
        (∀ o sl : SlotNo, s.lsv.leases[l].slot = some o → s.lsv.slots[o].state = .held → s.lsv.slots[o].home.isSome →
          ((arg ph s 1 = 0xFF ∧ s.lsv.freeList.head? = some sl ∧ s.lsv.slots[sl].state = .free) ∨
            (arg ph s 1 = sl.val ∧ ¬ TapTarget s.lsv sl ∧
              (s.lsv.slots[sl].state = .free ∨ s.lsv.slots[sl].state = .reserved))) →
          ∃ w : Lsv, Moved s.lsv w l o sl ∧ exec (.leaseMove ph) s =
            .next (done ph .ok (fields [(0, sl.val)]) 0 0 0
              (s.afterTables none
                { lsv := w
                  out :=
                    if s.lsv.leases[l].origin = .signaled then
                      [{ port := s.lsv.leases[l].port
                         reply := {
                           kind := .status, tag := s.lsv.leases[l].tag.getD 0, second := s.lsv.leases[l].state.field
                           channel := s.lsv.leases[l].channel
                           third := if s.lsv.leases[l].state = .active then sl else 0 } }]
                    else []
                  tapEnded := false }))))

/-! ### LEASE_CREATE, creation and retirement -/

namespace Sys2Proof.Spec

/-- The arguments of a LEASE_CREATE on a port that is not CLOSED are in range and read as `a` (R24 rows 1 to 3). -/
structure Asks (ph : Phase) (s : State) (a : CreateArgs) : Prop where
  port : argHigh ph s 0 = a.port.val
  opened : s.ports[a.port].lpi.admin ≠ .closed
  channel : argLow ph s 0 = a.channel.val
  bearer : s.ports[a.port].lpi.format.bearer a.channel = true
  kind : argHigh ph s 1 = code [LeaseKind.duplex, .talk, .listen] a.kind
  group : argLow ph s 1 = a.group.val
  cls : argHigh ph s 2 = a.cls.val
  listener : a.kind = .listen → a.slot = none
  slot : a.kind ≠ .listen →
    (argLow ph s 2 = 0xFF ∧ a.slot = some .pool) ∨ ∃ sl : SlotNo, argLow ph s 2 = sl.val ∧ a.slot = some (.named sl)
  pinned : a.pinned = argBit ph s 3 15
  code : a.code = if argBit ph s 3 8 then some (BitVec.ofNat 8 (argLow ph s 3)) else none

/-- Rows 4 to 11 of R24: the first that fails. -/
def createFails (v : Lsv) (a : CreateArgs) : Option ResultCode :=
  if v.chanMap[a.port][a.channel] ≠ none then some .inUse
  else if ∀ l : LeaseNo, v.leases[l].state ≠ .free then some .tableFull
  else if a.kind = .talk ∧ v.groups[a.group].talker ≠ none then some .talkBusy
  else if a.kind = .listen ∧ v.groups[a.group].listenerCap ≤ v.groups[a.group].listeners.length then some .groupFull
  else
    match a.slot with
    | none => none
    | some .pool => if v.freeList = [] then some .inUse else none
    | some (.named sl) =>
      if v.tap.state = .on ∧ v.tap.target = some sl then some .tapBusy
      else if v.slots[sl].state = .quarantine then some .slotGuard
      else if v.slots[sl].state = .held then some .inUse
      else none

/-- The lowest-numbered FREE record (R15). -/
def LowestFree (v : Lsv) (n : LeaseNo) : Prop :=
  v.leases[n].state = .free ∧ ∀ m : LeaseNo, m < n → v.leases[m].state ≠ .free

/-- The slot a HOST lease takes: none for a listener, the head of the free list for POOL, or the slot named (R25). -/
def slotTaken (v : Lsv) (a : CreateArgs) : NewSlot :=
  match a.slot with
  | none => .absent
  | some .pool =>
    match v.freeList with
    | [] => .absent
    | sl :: _ => .taken sl
  | some (.named sl) => .taken sl

/-- The condition of port `p` is FAULTED or RECOVERING. -/
def faulty (s : State) (p : PortNo) : Bool :=
  s.ports[p].lpi.condition == .faulted || s.ports[p].lpi.condition == .recovering

end Sys2Proof.Spec

/-- LEASE_CREATE refused (R24): the first failing row gives the result, and the tables stay as they were. -/
def Sys2Proof.Spec.LeaseCreateRefused : Prop :=
  ∀ (ph : Phase) (s : State), Ready .leaseCreate ph s →
    (3 < argHigh ph s 0 → exec (.leaseCreate ph) s = .next (done0 ph .badArg s)) ∧
    (∀ p : PortNo, argHigh ph s 0 = p.val → s.ports[p].lpi.admin = .closed →
      exec (.leaseCreate ph) s = .next (done0 ph .portClosed s)) ∧
    (∀ p : PortNo, argHigh ph s 0 = p.val → s.ports[p].lpi.admin ≠ .closed →
      (31 < argLow ph s 0 ∨ (∃ c : ChanNo, argLow ph s 0 = c.val ∧ s.ports[p].lpi.format.bearer c = false) ∨
        2 < argHigh ph s 1 ∨ 31 < argLow ph s 1 ∨ 3 < argHigh ph s 2 ∨
        (argHigh ph s 1 ≠ 2 ∧ 127 < argLow ph s 2 ∧ argLow ph s 2 ≠ 0xFF)) →
      exec (.leaseCreate ph) s = .next (done0 ph .badArg s)) ∧
    (∀ (a : CreateArgs) (result : ResultCode), Asks ph s a → createFails s.lsv a = some result →
      exec (.leaseCreate ph) s = .next (done0 ph result s))

/-- LEASE_CREATE carried out (R25, R15): the lowest FREE record takes a HOST lease with the arguments, no tag, idle count 0
and an empty notice set; the result is its number, its state and its slot. `create` is the shared creation; what it does is
stated by CreationMakesLease. -/
def Sys2Proof.Spec.LeaseCreateMakesHostLease : Prop :=
  ∀ (ph : Phase) (s : State) (a : CreateArgs) (n : LeaseNo), Ready .leaseCreate ph s →
    Asks ph s a → createFails s.lsv a = none → LowestFree s.lsv n →
    ∀ made : Lsv × List Unsolicited,
      made = s.lsv.create s.cpt.walker.scope (faulty s a.port) (slotTaken s.lsv a)
        { state := .free, kind := a.kind, origin := .host, port := a.port, channel := a.channel, group := a.group,
          cls := a.cls, slot := none, pinned := a.pinned, code := a.code, idle := 0, tag := none, notices := 0,
          cause := none } n →
      exec (.leaseCreate ph) s =
        .next (done ph .ok (fields [(0, n.val)]) (fields [(0, stateCode made.1.leases[n].state)])
          (fields [(0, numberOr made.1.leases[n].slot 0xFFFF)]) 0
          (s.afterTables none { lsv := made.1, out := made.2, tapEnded := false }))

/-- LEASE_CREATE (R24, R25): the checks in order, and the creation. -/
def Obligations.LeaseCreateCheckedAndCarriedOut : Prop := Spec.LeaseCreateRefused ∧ Spec.LeaseCreateMakesHostLease

namespace Sys2Proof.Spec

/-- The listeners that are sent STATUS at a change of talker: in state `old`, SIGNALED and outside the scope of a walk in
flight (R18, R56, R65), in list order. -/
def told (v : Lsv) (sc : Option Scope) (old : LeaseState) (ls : List LeaseNo) : List LeaseNo :=
  ls.filter fun l =>
    v.leases[l].state == old && v.leases[l].origin == .signaled &&
      !(match sc with
        | none => false
        | some x =>
          (match x.reach with
            | .port p => p == v.leases[l].port
            | .group g => g == v.leases[l].group
            | .all => true) &&
          (!v.leases[l].pinned || x.pinned))

/-- The STATUS of R65 for a listener's new state, which stands in the field of the lease kind (R86; log 23). -/
def listenerStatus (v : Lsv) (new : LeaseState) (third : Fin 128) (l : LeaseNo) : Unsolicited :=
  { port := v.leases[l].port
    reply := { kind := .status, tag := v.leases[l].tag.getD 0, second := new.field, channel := v.leases[l].channel,
               third := third } }

/-- A record with TALKER_CHANGE added by the notice rule of R8. -/
def withTalkerChange (v : Lsv) (r : Lease) : Lease :=
  if r.origin = .host ∨ v.groups[r.group].mask.getLsbD 6 = true then { r with notices := r.notices ||| 64 } else r

/-- Those of the listeners `ls` that join the attention list with TALKER_CHANGE: their notice set goes from empty to non-empty
(R158). -/
def talkerJoined (v : Lsv) (ls : List LeaseNo) : List LeaseNo :=
  ls.filter fun l => v.leases[l].notices == 0 && (withTalkerChange v v.leases[l]).notices != 0

/-- Record `l` after a talker's arrival if it is one of the listeners `ls` (R56). -/
def arrived (v : Lsv) (ls : List LeaseNo) (l : LeaseNo) : Lease :=
  if l ∈ ls then
    withTalkerChange v (if v.leases[l].state = .waiting then { v.leases[l] with state := .active } else v.leases[l])
  else v.leases[l]

/-- Record `l` after a talker's retirement without preemption if it is one of the listeners `ls` (R18). -/
def departed (v : Lsv) (ls : List LeaseNo) (l : LeaseNo) : Lease :=
  if l ∈ ls then
    withTalkerChange v (if v.leases[l].state = .active then { v.leases[l] with state := .waiting } else v.leases[l])
  else v.leases[l]

/-- Record `l` after a talker's replacement by preemption if it is one of the listeners `ls` (R18, R58). -/
def replaced (v : Lsv) (ls : List LeaseNo) (l : LeaseNo) : Lease :=
  if l ∈ ls then withTalkerChange v v.leases[l] else v.leases[l]

/-- The REVOKED of a retirement (R21, R88): for a SIGNALED lease, with its stored tag, its kind and channel, and reason 32
for EXPIRED, 33 for PREEMPTED, 34 for HOST and SCOPE; none for LINE_RELEASE and LINK_LOST. -/
def revoked (r : Lease) (cause : RetireCause) : List Unsolicited :=
  if r.origin = .signaled ∧ cause ≠ .lineRelease ∧ cause ≠ .linkLost then
    [{ port := r.port
       reply := {
         kind := .revoked, tag := r.tag.getD 0, channel := r.channel
         second := (match r.kind with | .duplex => 0 | .talk => 1 | .listen => 2)
         third := (match cause with | .expired => 32 | .preempted => 33 | _ => 34) } }]
  else []

end Sys2Proof.Spec

/-- What a creation does (R9, R12, R25, R30, R55, R56, R58, R60, R158): the record is written with its state and slot, the
channel-map entry names it, its slot becomes HELD with the right home, a talker or listener joins its group, and other
groups, entries and the tap stay. A talker on a slot taken attaches its group's listeners, with STATUS, and one that a
preemption passes its slot to replaces the old talker for them; both give TALKER_CHANGE in list order. A list names a lease
once (R60). -/
def Obligations.CreationMakesLease : Prop :=
  ∀ (v w : Lsv) (sc : Option Scope) (fault : Bool) (ns : NewSlot) (r : Lease) (n : LeaseNo),
    n ∉ v.groups[r.group].listeners → w = (v.create sc fault ns r n).1 →
    w.leases[n] = { r with
      state := if fault then .conditioned
        else if r.kind = .listen ∧ v.groups[r.group].talker = none then .waiting else .active
      slot := (match ns with | .absent => none | .taken sl => some sl | .passed sl => some sl) } ∧
    (∀ (p : PortNo) (c : ChanNo),
      w.chanMap[p][c] = if p = r.port ∧ c = r.channel then some n else v.chanMap[p][c]) ∧
    (∀ g : GroupNo, g ≠ r.group → w.groups[g] = v.groups[g]) ∧
    (r.kind = .duplex → w.groups[r.group] = v.groups[r.group]) ∧
    (r.kind = .talk → w.groups[r.group] = { v.groups[r.group] with talker := some n }) ∧
    (r.kind = .listen →
      w.groups[r.group] = { v.groups[r.group] with listeners := v.groups[r.group].listeners ++ [n] }) ∧
    (∀ j : LeaseNo, j ≠ n → (r.kind ≠ .talk ∨ j ∉ v.groups[r.group].listeners) → w.leases[j] = v.leases[j]) ∧
    w.tap = v.tap ∧ w.quarantine = v.quarantine ∧
    -- the listeners, the replies and the attention list
    (r.kind ≠ .talk ∨ ns = .absent → w.attention = v.attention ∧ (v.create sc fault ns r n).2 = []) ∧
    (∀ (sl : SlotNo) (ls : List LeaseNo), r.kind = .talk → ns = .taken sl → ls = v.groups[r.group].listeners → ls.Nodup →
      (∀ j : LeaseNo, j ≠ n → w.leases[j] = arrived v ls j) ∧
      w.attention = v.attention ++ talkerJoined v ls ∧
      (v.create sc fault ns r n).2 = (told v sc .waiting ls).map (listenerStatus v .active sl)) ∧
    (∀ (sl : SlotNo) (ls : List LeaseNo), r.kind = .talk → ns = .passed sl → ls = v.groups[r.group].listeners → ls.Nodup →
      (∀ j : LeaseNo, j ≠ n → w.leases[j] = replaced v ls j) ∧
      w.attention = v.attention ++ talkerJoined v ls ∧ (v.create sc fault ns r n).2 = []) ∧
    -- the slot
    (∀ sl : SlotNo, ns = .taken sl → v.slots[sl].state = .free →
      w.slots = upd v.slots sl { state := .held, home := some .pool, holder := some n, guard := none } ∧
      w.freeList = v.freeList.erase sl) ∧
    (∀ sl : SlotNo, ns = .taken sl → v.slots[sl].state = .reserved →
      w.slots = upd v.slots sl { state := .held, home := some .reserved, holder := some n, guard := none } ∧
      w.freeList = v.freeList) ∧
    (∀ sl : SlotNo, ns = .passed sl →
      w.slots = upd v.slots sl { v.slots[sl] with holder := some n } ∧ w.freeList = v.freeList) ∧
    (ns = .absent → w.slots = v.slots ∧ w.freeList = v.freeList)

/-- What a retirement does to the record, the channel map, the group, the listeners, the tap, the slot, the replies and the
attention list (R16 to R22, R158). With `keep` it is the preemption of a talker, whose slot stays HELD and whose listeners
wait for the new talker (R18). The REVOKED comes before the listeners' STATUS (R21), and the listeners join the attention list
before the retired lease. A TALK lease that is its own listener is no reachable state (R60) and is left out; a list names a
lease once (R60). -/
def Obligations.RetirementEndsLease : Prop :=
  ∀ (v w : Lsv) (sc : Option Scope) (cause : RetireCause) (keep : Bool) (l : LeaseNo) (r : Lease),
    r = v.leases[l] → (r.kind = .talk → l ∉ v.groups[r.group].listeners) →
    w = (v.retire sc cause keep l).lsv →
    -- the notices with the kind of the cause, and the record
    (∀ ns : NoticeSet,
      ns = (match cause.notice with
        | none => r.notices
        | some k =>
          if r.origin = .host ∨ v.groups[r.group].mask.getLsbD k.bit = true
          then r.notices ||| (1#7 <<< k.bit) else r.notices) →
      (w.leases[l] = if ns = 0 then Lease.cleared
        else { r with state := .retired, slot := none, notices := ns, cause := some cause }) ∧
      (∀ last : List LeaseNo, last = (if r.notices = 0 ∧ ns ≠ 0 then [l] else []) →
        (r.kind ≠ .talk ∨ keep = true →
          w.attention = v.attention ++ last ∧ (v.retire sc cause keep l).out = revoked r cause) ∧
        (∀ ls : List LeaseNo, r.kind = .talk → keep = false → ls = v.groups[r.group].listeners → ls.Nodup →
          (∀ j : LeaseNo, j ≠ l → w.leases[j] = departed v ls j) ∧
          w.attention = v.attention ++ talkerJoined v ls ++ last ∧
          (v.retire sc cause keep l).out =
            revoked r cause ++ (told v sc .active ls).map (listenerStatus v .waiting 0)))) ∧
    (∀ (p : PortNo) (c : ChanNo),
      w.chanMap[p][c] = if p = r.port ∧ c = r.channel then none else v.chanMap[p][c]) ∧
    -- the group
    (∀ g : GroupNo, g ≠ r.group → w.groups[g] = v.groups[g]) ∧
    (r.kind = .duplex → w.groups[r.group] = v.groups[r.group]) ∧
    (r.kind = .talk → w.groups[r.group] = { v.groups[r.group] with talker := none }) ∧
    (r.kind = .listen →
      w.groups[r.group] = { v.groups[r.group] with listeners := v.groups[r.group].listeners.erase l }) ∧
    (∀ j : LeaseNo, j ≠ l → (r.kind ≠ .talk ∨ keep = true ∨ j ∉ v.groups[r.group].listeners) →
      w.leases[j] = v.leases[j]) ∧
    -- the tap
    (v.tap.state = .on ∧ v.tap.source = some l →
      w.tap = { v.tap with state := .ended, endReason := some .sourceRetired }) ∧
    (¬ (v.tap.state = .on ∧ v.tap.source = some l) → w.tap = v.tap) ∧
    ((v.retire sc cause keep l).tapEnded = true ↔ v.tap.state = .on ∧ v.tap.source = some l) ∧
    -- the slot
    (r.slot = none ∨ keep = true → w.slots = v.slots ∧ w.freeList = v.freeList ∧ w.quarantine = v.quarantine) ∧
    (∀ sl : SlotNo, r.slot = some sl → keep = false →
      (v.slots[sl].home = some .reserved →
        w.slots = upd v.slots sl { state := .reserved, home := none, holder := none, guard := none } ∧
        w.freeList = v.freeList ∧ w.quarantine = v.quarantine) ∧
      (v.slots[sl].home = some .pool → v.guardSetting ≠ 0 →
        w.slots = upd v.slots sl { state := .quarantine, home := none, holder := none, guard := some v.guardSetting } ∧
        w.freeList = v.freeList ∧ w.quarantine = v.quarantine ++ [sl]) ∧
      (v.slots[sl].home = some .pool → v.guardSetting = 0 →
        w.slots = upd v.slots sl { state := .free, home := none, holder := none, guard := none } ∧
        w.freeList = v.freeList ++ [sl] ∧ w.quarantine = v.quarantine))

/-- The group's listeners at a change of talker (R18, R56, R65, R158): at the arrival of a talker on slot `sl` the WAITING
become ACTIVE, at its retirement the ACTIVE become WAITING, all others keep their state, every listener is given
TALKER_CHANGE and joins the attention list in list order, and STATUS goes in list order to those that changed, are SIGNALED
and lie outside a walk's scope. A preempted talker's listeners keep their state. A list names a lease once (R60). Creations
and retirements do the same by CreationMakesLease and RetirementEndsLease. -/
def Obligations.ListenersFollowTalker : Prop :=
  ∀ (v : Lsv) (sc : Option Scope) (g : GroupNo) (sl : SlotNo), v.groups[g].listeners.Nodup →
    (∀ j : LeaseNo,
      (v.attachListeners sc g sl).1.leases[j] =
        if j ∈ v.groups[g].listeners then
          withTalkerChange v (if v.leases[j].state = .waiting then { v.leases[j] with state := .active } else v.leases[j])
        else v.leases[j]) ∧
    (v.attachListeners sc g sl).2 =
      (told v sc .waiting v.groups[g].listeners).map (listenerStatus v .active sl) ∧
    (∀ j : LeaseNo,
      (v.detachListeners sc g).1.leases[j] =
        if j ∈ v.groups[g].listeners then
          withTalkerChange v (if v.leases[j].state = .active then { v.leases[j] with state := .waiting } else v.leases[j])
        else v.leases[j]) ∧
    (v.detachListeners sc g).2 =
      (told v sc .active v.groups[g].listeners).map (listenerStatus v .waiting 0) ∧
    (∀ j : LeaseNo,
      (v.replacedTalker g).leases[j] =
        if j ∈ v.groups[g].listeners then withTalkerChange v v.leases[j] else v.leases[j]) ∧
    (v.attachListeners sc g sl).1.attention = v.attention ++ talkerJoined v v.groups[g].listeners ∧
    (v.detachListeners sc g).1.attention = v.attention ++ talkerJoined v v.groups[g].listeners ∧
    (v.replacedTalker g).attention = v.attention ++ talkerJoined v v.groups[g].listeners ∧
    (v.attachListeners sc g sl).1.groups = v.groups ∧ (v.detachListeners sc g).1.groups = v.groups ∧
    (v.attachListeners sc g sl).1.slots = v.slots ∧ (v.detachListeners sc g).1.slots = v.slots ∧
    (v.attachListeners sc g sl).1.chanMap = v.chanMap ∧ (v.detachListeners sc g).1.chanMap = v.chanMap

/-- Unsolicited replies (R83, R84): a reply for a port that is not OPEN or DRAIN with condition NORMAL or PENDING is dropped
without a count; otherwise it joins the tail while the queue holds fewer than 8 replies, 7 at the serving port, and else it
is dropped and counted in REPLY_LOST. Several replies are tested in turn; the tables are those of the operation, and a tap
that ended sets TAP. -/
def Obligations.RepliesPlacedOrDropped : Prop :=
  (∀ (serving : Option PortNo) (ports : Vector Port 4) (u : Unsolicited) (x : Port), x = ports[u.port] →
    (x.lpi.admin = .closed ∨ x.lpi.condition = .faulted ∨ x.lpi.condition = .recovering →
      placeAll serving ports [u] = ports) ∧
    (x.lpi.admin ≠ .closed → x.lpi.condition = .normal ∨ x.lpi.condition = .pending →
      (x.cch.queue.length < (if serving = some u.port then 7 else 8) →
        placeAll serving ports [u] =
          upd ports u.port { x with cch := { x.cch with queue := x.cch.queue ++ [u.reply] } }) ∧
      ((if serving = some u.port then 7 else 8) ≤ x.cch.queue.length →
        placeAll serving ports [u] =
          upd ports u.port { x with cch := { x.cch with counters := { x.cch.counters with
            replyLost := min (x.cch.counters.replyLost + 1) 65535 } } }))) ∧
  (∀ (serving : Option PortNo) (ports : Vector Port 4) (u : Unsolicited) (us : List Unsolicited),
    placeAll serving ports [] = ports ∧
    placeAll serving ports (u :: us) = placeAll serving (placeAll serving ports [u]) us) ∧
  ∀ (serving : Option PortNo) (s : State) (o : TableOp),
    s.afterTables serving o =
      { s with
        lsv := o.lsv, ports := placeAll serving s.ports o.out
        ntu := if o.tapEnded = true then event 6 s.ntu else s.ntu }

/-! ### Slots, pool, tap and groups -/

/-- SLOT_READ (R37) in the layout of 12 §12.5; nothing else changes. -/
def Sys2Proof.Spec.SlotReadReportsSlot : Prop :=
  ∀ (ph : Phase) (s : State), Ready .slotRead ph s →
    (∀ sl : SlotNo, arg ph s 0 = sl.val →
      ∀ (target : Bool) (place : Nat), (target = true ↔ TapTarget s.lsv sl) →
        place = (match s.lsv.slots[sl].state with
          | .free => s.lsv.freeList.idxOf sl
          | .quarantine => s.lsv.quarantine.idxOf sl
          | .reserved | .held => 0xFFFF) →
        exec (.slotRead ph) s =
          .next (done ph .ok
            (fields [(14, slotCode s.lsv.slots[sl].state), (13, bit target),
              (8, match s.lsv.slots[sl].home with | none => 3 | some h => code [Home.pool, .reserved] h),
              (0, s.lsv.slots[sl].guard.getD 0xFF)])
            (fields [(0, numberOr s.lsv.slots[sl].holder 0xFFFF)]) (fields [(0, place)]) 0 s)) ∧
    (127 < arg ph s 0 → exec (.slotRead ph) s = .next (done0 ph .badArg s))

/-- SLOT_RESERVE (R38): OK in every state of the slot, with the state before; the effect is that of the table. -/
def Sys2Proof.Spec.SlotReserveSetsAside : Prop :=
  ∀ (ph : Phase) (s : State), Ready .slotReserve ph s →
    (127 < arg ph s 0 → exec (.slotReserve ph) s = .next (done0 ph .badArg s)) ∧
    ∀ sl : SlotNo, arg ph s 0 = sl.val →
      (s.lsv.slots[sl].state = .free →
        exec (.slotReserve ph) s =
          .next (done ph .ok (fields [(14, 0)]) 0 0 0 (withTables s { s.lsv with
            slots := upd s.lsv.slots sl { state := .reserved, home := none, holder := none, guard := none }
            freeList := s.lsv.freeList.erase sl }))) ∧
      (s.lsv.slots[sl].state = .quarantine →
        exec (.slotReserve ph) s =
          .next (done ph .ok (fields [(14, 1)]) 0 0 0 (withTables s { s.lsv with
            slots := upd s.lsv.slots sl { state := .reserved, home := none, holder := none, guard := none }
            quarantine := s.lsv.quarantine.erase sl }))) ∧
      (s.lsv.slots[sl].state = .reserved →
        exec (.slotReserve ph) s = .next (done ph .ok (fields [(14, 2)]) 0 0 0 s)) ∧
      (s.lsv.slots[sl].state = .held →
        exec (.slotReserve ph) s =
          .next (done ph .ok (fields [(14, 3)]) 0 0 0 (withSlot s sl { s.lsv.slots[sl] with home := some .reserved })))

/-- SLOT_READ (R37) and SLOT_RESERVE (R38). -/
def Obligations.SlotReadAndReserve : Prop := Spec.SlotReadReportsSlot ∧ Spec.SlotReserveSetsAside

/-- SLOT_RELEASE (R39): the effect and the result are those of the table, with the state before after OK. -/
def Obligations.SlotReleaseReturnsSlot : Prop :=
  ∀ (ph : Phase) (s : State), Ready .slotRelease ph s →
    (127 < arg ph s 0 → exec (.slotRelease ph) s = .next (done0 ph .badArg s)) ∧
    ∀ sl : SlotNo, arg ph s 0 = sl.val →
      (s.lsv.slots[sl].state = .reserved → TapTarget s.lsv sl →
        exec (.slotRelease ph) s = .next (done0 ph .tapBusy s)) ∧
      (s.lsv.slots[sl].state = .reserved → ¬ TapTarget s.lsv sl → s.lsv.guardSetting ≠ 0 →
        exec (.slotRelease ph) s =
          .next (done ph .ok (fields [(14, 2)]) 0 0 0 (withTables s { s.lsv with
            slots := upd s.lsv.slots sl
              { state := .quarantine, home := none, holder := none, guard := some s.lsv.guardSetting }
            quarantine := s.lsv.quarantine ++ [sl] }))) ∧
      (s.lsv.slots[sl].state = .reserved → ¬ TapTarget s.lsv sl → s.lsv.guardSetting = 0 →
        exec (.slotRelease ph) s =
          .next (done ph .ok (fields [(14, 2)]) 0 0 0 (withTables s { s.lsv with
            slots := upd s.lsv.slots sl { state := .free, home := none, holder := none, guard := none }
            freeList := s.lsv.freeList ++ [sl] }))) ∧
      (s.lsv.slots[sl].state = .held →
        exec (.slotRelease ph) s =
          .next (done ph .ok (fields [(14, 3)]) 0 0 0 (withSlot s sl { s.lsv.slots[sl] with home := some .pool }))) ∧
      (s.lsv.slots[sl].state = .free → exec (.slotRelease ph) s = .next (done ph .ok (fields [(14, 0)]) 0 0 0 s)) ∧
      (s.lsv.slots[sl].state = .quarantine →
        exec (.slotRelease ph) s = .next (done ph .ok (fields [(14, 1)]) 0 0 0 s))

/-- POOL_READ (R44) in the layout of 12 §12.5: the four views, BAD_ARG and NONE; it changes no state. -/
def Sys2Proof.Spec.PoolReadReportsViews : Prop :=
  ∀ (ph : Phase) (s : State), Ready .poolRead ph s →
    (arg ph s 0 = 0 →
      exec (.poolRead ph) s =
        .next (done ph .ok (fields [(8, s.lsv.freeList.length), (0, s.lsv.quarantine.length)])
          (fields [(0, s.lsv.guardSetting)])
          (fields [(8, s.lsv.floors[0]), (0, s.lsv.floors[1])]) (fields [(8, s.lsv.floors[2]), (0, s.lsv.floors[3])]) s)) ∧
    (arg ph s 0 = 1 →
      exec (.poolRead ph) s =
        .next (done ph .ok
          (fields [(8, code [none, some EndReason.sourceRetired, some .reset] s.lsv.tap.endReason),
            (0, code [TapState.off, .on, .ended] s.lsv.tap.state)])
          (fields [(0, numberOr s.lsv.tap.source 0xFFFF)]) (fields [(0, numberOr s.lsv.tap.target 0xFFFF)]) 0 s)) ∧
    (arg ph s 0 = 2 → arg ph s 1 ≤ 127 →
      (∀ sl : SlotNo, s.lsv.freeList[arg ph s 1]? = some sl →
        exec (.poolRead ph) s = .next (done ph .ok (fields [(0, sl.val)]) 0 0 0 s)) ∧
      (s.lsv.freeList.length ≤ arg ph s 1 → exec (.poolRead ph) s = .next (done0 ph .none s))) ∧
    (arg ph s 0 = 3 → arg ph s 1 ≤ 127 →
      (∀ sl : SlotNo, s.lsv.quarantine[arg ph s 1]? = some sl →
        exec (.poolRead ph) s =
          .next (done ph .ok (fields [(0, sl.val)]) (fields [(0, s.lsv.slots[sl].guard.getD 0)]) 0 0 s)) ∧
      (s.lsv.quarantine.length ≤ arg ph s 1 → exec (.poolRead ph) s = .next (done0 ph .none s))) ∧
    (3 < arg ph s 0 ∨ ((arg ph s 0 = 2 ∨ arg ph s 0 = 3) ∧ 127 < arg ph s 1) →
      exec (.poolRead ph) s = .next (done0 ph .badArg s))

/-- POOL_SET (R45): five values in range are replaced together, otherwise BAD_ARG and nothing changes; the lists and the
guards of slots already in quarantine stay. -/
def Sys2Proof.Spec.PoolSetReplacesSettings : Prop :=
  ∀ (ph : Phase) (s : State), Ready .poolSet ph s →
    ∀ inRange : Prop,
      (inRange ↔ argLow ph s 0 ≤ 15 ∧ argHigh ph s 1 ≤ 127 ∧ argLow ph s 1 ≤ 127 ∧ argHigh ph s 2 ≤ 127 ∧
        argLow ph s 2 ≤ 127) →
      (inRange →
        exec (.poolSet ph) s =
          .next (done0 ph .ok (withTables s { s.lsv with
            guardSetting := argLow ph s 0
            floors := #v[argHigh ph s 1, argLow ph s 1, argHigh ph s 2, argLow ph s 2] }))) ∧
      (¬ inRange → exec (.poolSet ph) s = .next (done0 ph .badArg s))

/-- POOL_READ (R44) and POOL_SET (R45). -/
def Obligations.PoolCommandsReadAndSet : Prop := Spec.PoolReadReportsViews ∧ Spec.PoolSetReplacesSettings

/-- MONITOR_SET (R48) with its checks in order, and MONITOR_CLEAR (R49); neither touches the TAP bit or a slot. -/
def Obligations.MonitorCommandsSetTap : Prop :=
  (∀ (ph : Phase) (s : State), Ready .monitorSet ph s →
    (127 < arg ph s 0 ∨ 127 < arg ph s 1 → exec (.monitorSet ph) s = .next (done0 ph .badArg s)) ∧
    ∀ (l : LeaseNo) (sl : SlotNo), arg ph s 0 = l.val → arg ph s 1 = sl.val →
      (s.lsv.tap.state = .on → exec (.monitorSet ph) s = .next (done0 ph .tapBusy s)) ∧
      (s.lsv.tap.state ≠ .on → ¬ Live s.lsv.leases[l] → exec (.monitorSet ph) s = .next (done0 ph .notLive s)) ∧
      (s.lsv.tap.state ≠ .on → Live s.lsv.leases[l] → s.lsv.slots[sl].state ≠ .reserved →
        exec (.monitorSet ph) s = .next (done0 ph .badArg s)) ∧
      (s.lsv.tap.state ≠ .on → Live s.lsv.leases[l] → s.lsv.slots[sl].state = .reserved →
        exec (.monitorSet ph) s =
          .next (done0 ph .ok (withTables s { s.lsv with
            tap := { state := .on, source := some l, target := some sl, endReason := none } })))) ∧
  ∀ (ph : Phase) (s : State), Ready .monitorClear ph s →
    exec (.monitorClear ph) s =
      .next (done0 ph .ok (withTables s { s.lsv with
        tap := { state := .off, source := none, target := none, endReason := none } }))

/-- GROUP_READ (R66) in the layout of 12 §12.5; nothing else changes. -/
def Sys2Proof.Spec.GroupReadReportsGroup : Prop :=
  ∀ (ph : Phase) (s : State), Ready .groupRead ph s →
    (31 < arg ph s 0 → exec (.groupRead ph) s = .next (done0 ph .badArg s)) ∧
    ∀ (g : GroupNo) (r : Group), arg ph s 0 = g.val → r = s.lsv.groups[g] →
      ∀ (talkerSlot : Option SlotNo) (shown : LeaseState),
        talkerSlot = (match r.talker with | none => none | some t => s.lsv.leases[t].slot) →
        shown = (match r.talker with | none => .waiting | some _ => .active) →
        exec (.groupRead ph) s =
          .next (done ph .ok
            (fields [(8, r.expiryLimit), (0, (liveLeases s.lsv fun x => x.group == g).length)])
            (fields [(11, r.listeners.length), (6, r.listenerCap), (2, r.members.toNat), (1, bit r.admitNonMember),
              (0, bit r.enabled)])
            (fields [(8, numberOr r.talker 0xFF), (0, numberOr talkerSlot 0xFF)])
            (fields [(8, (r.listeners.filter fun l => s.lsv.leases[l].state == shown).length), (0, r.mask.toNat)]) s)

/-- GROUP_WRITE (R67): the checks in order, and the six fields replaced together; talker and listener list stay. -/
def Sys2Proof.Spec.GroupWriteReplacesConfiguration : Prop :=
  ∀ (ph : Phase) (s : State), Ready .groupWrite ph s →
    (31 < argHigh ph s 0 ∨ 16 < argHigh ph s 1 ∨ 127 < argLow ph s 1 →
      exec (.groupWrite ph) s = .next (done0 ph .badArg s)) ∧
    ∀ g : GroupNo, argHigh ph s 0 = g.val → argHigh ph s 1 ≤ 16 → argLow ph s 1 ≤ 127 →
      (argBit ph s 2 0 = false → (∃ l : LeaseNo, Live s.lsv.leases[l] ∧ s.lsv.leases[l].group = g) →
        exec (.groupWrite ph) s = .next (done0 ph .groupBusy s)) ∧
      (argBit ph s 2 0 = true ∨ (∀ l : LeaseNo, Live s.lsv.leases[l] → s.lsv.leases[l].group ≠ g) →
        exec (.groupWrite ph) s =
          .next (done0 ph .ok (withTables s { s.lsv with
            groups := upd s.lsv.groups g { s.lsv.groups[g] with
              enabled := argBit ph s 2 0, admitNonMember := argBit ph s 2 1
              members := BitVec.ofNat 4 (arg ph s 2 / 256)
              expiryLimit := argLow ph s 0, listenerCap := argHigh ph s 1, mask := BitVec.ofNat 7 (argLow ph s 1) } })))

/-- GROUP_READ (R66) and GROUP_WRITE (R67). -/
def Obligations.GroupCommandsReadAndWrite : Prop := Spec.GroupReadReportsGroup ∧ Spec.GroupWriteReplacesConfiguration

/-- LISTENER_READ (R69) in the layout of 12 §12.5, with BAD_ARG and NONE; nothing else changes. -/
def Obligations.ListenerReadReportsPosition : Prop :=
  ∀ (ph : Phase) (s : State), Ready .listenerRead ph s →
    (31 < arg ph s 0 ∨ 15 < arg ph s 1 → exec (.listenerRead ph) s = .next (done0 ph .badArg s)) ∧
    ∀ g : GroupNo, arg ph s 0 = g.val → arg ph s 1 ≤ 15 →
      (∀ l : LeaseNo, s.lsv.groups[g].listeners[arg ph s 1]? = some l →
        exec (.listenerRead ph) s = .next (done ph .ok (fields [(0, l.val)]) (leaseWord s.lsv.leases[l]) 0 0 s)) ∧
      (s.lsv.groups[g].listeners.length ≤ arg ph s 1 → exec (.listenerRead ph) s = .next (done0 ph .none s))

/-! ### Ports, meters and counters -/

/-- PORT_READ (R127) in the layout of 12 §12.5; nothing else changes. -/
def Sys2Proof.Spec.PortReadReportsPort : Prop :=
  ∀ (ph : Phase) (s : State), Ready .portRead ph s →
    (3 < arg ph s 0 → exec (.portRead ph) s = .next (done0 ph .badArg s)) ∧
    ∀ (p : PortNo) (x : Lpi) (frames : Nat), arg ph s 0 = p.val → x = s.ports[p].lpi →
      frames = (match x.condition with
        | .pending => x.holdTimer.getD 0x7FF
        | .recovering => x.recoveryTimer.getD 0x7FF
        | .normal | .faulted => 0x7FF) →
      exec (.portRead ph) s =
        .next (done ph .ok
          (fields [(8, x.countdown), (6, code [Admin.closed, .drain, .opened] x.admin),
            (5, code [Format.f32, .f24] x.format),
            (3, code [Condition.normal, .pending, .faulted, .recovering] x.condition), (2, bit x.lost), (1, bit x.faultIn)])
          (fields [(8, x.code.toNat), (0, x.faultHold)]) (fields [(8, x.recoveryTime), (0, x.releaseTimeout)])
          (fields [(11, (liveLeases s.lsv fun r => r.port == p).length), (0, frames)]) s)

namespace Sys2Proof.Spec

/-- The port after an accepted PORT_SET (R112, R126). -/
def portAfter (x : Port) (c : PortArgs) : Port :=
  let l := { x.lpi with
    admin := c.admin, format := c.format, code := c.code, faultHold := c.faultHold, recoveryTime := c.recoveryTime,
    releaseTimeout := c.releaseTimeout }
  if x.lpi.admin = .closed ∧ c.admin ≠ .closed then
    -- opening: HUNT, and an asserted fault input enters PENDING with the new fault hold
    { x with
      cch := { x.cch with assembly := .hunt }
      lpi := if x.lpi.faultIn = true
        then { l with condition := .pending, holdTimer := some (8 * c.faultHold), counting := false } else l }
  else if x.lpi.admin ≠ .closed ∧ c.admin = .closed then
    -- closing
    { x with
      cch := { x.cch with assembly := .hunt, bufA := none, bufB := none, queue := [], sent := 0 }
      lpi := { l with condition := .normal, holdTimer := none, recoveryTimer := none, countdown := 0, lost := false } }
  else { x with lpi := l }

end Sys2Proof.Spec

/-- PORT_SET (R126, R112, R113, R114): the checks in order, and the whole configuration with the effects of the change of
admin state. A CLOSED port has condition NORMAL (R72, R112). -/
def Sys2Proof.Spec.PortSetConfiguresPort : Prop :=
  ∀ (ph : Phase) (s : State), Ready .portSet ph s →
    (3 < argHigh ph s 0 ∨ 2 < argLow ph s 0 ∨ 1 < argHigh ph s 1 ∨ argHigh ph s 2 = 0 →
      exec (.portSet ph) s = .next (done0 ph .badArg s)) ∧
    ∀ (p : PortNo) (c : PortArgs), argHigh ph s 0 = p.val →
      argLow ph s 0 = code [Admin.closed, .drain, .opened] c.admin →
      argHigh ph s 1 = code [Format.f32, .f24] c.format →
      argHigh ph s 2 ≠ 0 → c.code = BitVec.ofNat 8 (argLow ph s 1) → c.faultHold = argHigh ph s 2 →
      c.recoveryTime = argLow ph s 2 → c.releaseTimeout = argLow ph s 3 →
      (c.format ≠ s.ports[p].lpi.format → s.ports[p].lpi.admin ≠ .closed →
        exec (.portSet ph) s = .next (done0 ph .portBusy s)) ∧
      (c.admin = .closed → s.ports[p].lpi.admin ≠ .closed →
        (∃ l : LeaseNo, Live s.lsv.leases[l] ∧ s.lsv.leases[l].port = p) →
        exec (.portSet ph) s = .next (done0 ph .portBusy s)) ∧
      ((c.format = s.ports[p].lpi.format ∨ s.ports[p].lpi.admin = .closed) →
        (c.admin ≠ .closed ∨ s.ports[p].lpi.admin = .closed ∨
          ∀ l : LeaseNo, Live s.lsv.leases[l] → s.lsv.leases[l].port ≠ p) →
        (s.ports[p].lpi.admin = .closed → s.ports[p].lpi.condition = .normal) →
        exec (.portSet ph) s = .next (done0 ph .ok (withPort s p (portAfter s.ports[p] c))))

/-- PORT_READ (R127) and PORT_SET (R126, R112). -/
def Obligations.PortCommandsReadAndSet : Prop := Spec.PortReadReportsPort ∧ Spec.PortSetConfiguresPort

/-- METER_READ (R108) and METER_SET (R107) in the layouts of chapter 12. -/
def Obligations.MeterCommandsReadAndSet : Prop :=
  (∀ (ph : Phase) (s : State), Ready .meterRead ph s →
    (3 < arg ph s 0 ∨ 1 < arg ph s 1 → exec (.meterRead ph) s = .next (done0 ph .badArg s)) ∧
    ∀ (p : PortNo) (m : Cmt), arg ph s 0 = p.val → m = s.ports[p].cmt →
      (arg ph s 1 = 0 →
        exec (.meterRead ph) s =
          .next (done ph .ok (fields [(0, m.ci)]) (fields [(0, m.ei)])
            (fields [(12, m.cbs), (8, m.ebs), (0, m.margin)]) 0 s)) ∧
      (arg ph s 1 = 1 →
        exec (.meterRead ph) s =
          .next (done ph .ok (fields [(0, m.committedCount)]) (fields [(0, m.excessCount)])
            (fields [(12, m.committed), (8, m.excess)]) 0 s))) ∧
  ∀ (ph : Phase) (s : State), Ready .meterSet ph s →
    (3 < argHigh ph s 0 ∨ arg ph s 1 = 0 ∨ argLow ph s 0 = 0 ∨ 15 < argLow ph s 0 ∨ 15 < argHigh ph s 3 ∨
      127 < argLow ph s 3 → exec (.meterSet ph) s = .next (done0 ph .badArg s)) ∧
    ∀ p : PortNo, argHigh ph s 0 = p.val → arg ph s 1 ≠ 0 → argLow ph s 0 ≠ 0 → argLow ph s 0 ≤ 15 →
      argHigh ph s 3 ≤ 15 → argLow ph s 3 ≤ 127 →
      exec (.meterSet ph) s =
        .next (done0 ph .ok (withPort s p { s.ports[p] with cmt :=
          { ci := arg ph s 1, cbs := argLow ph s 0, ei := arg ph s 2, ebs := argHigh ph s 3, margin := argLow ph s 3
            committed := argLow ph s 0, excess := argHigh ph s 3, committedCount := 0, excessCount := 0
            committedDue := 0, excessDue := 0 } }))

/-- COUNTERS_READ (R167) and REFUSAL_READ (R166): the counters of the bank, and the refusal record, are reported and cleared
in one event; nothing else changes. -/
def Obligations.CountersAndRefusalsReadAndCleared : Prop :=
  (∀ (ph : Phase) (s : State), Ready .countersRead ph s →
    (3 < arg ph s 0 ∨ 1 < arg ph s 1 → exec (.countersRead ph) s = .next (done0 ph .badArg s)) ∧
    ∀ (p : PortNo) (x : Cch), arg ph s 0 = p.val → x = s.ports[p].cch →
      (arg ph s 1 = 0 →
        exec (.countersRead ph) s =
          .next (done ph .ok (fields [(0, x.counters.checkErr)]) (fields [(0, x.counters.fragment)])
            (fields [(0, x.counters.overrun)]) (fields [(0, x.counters.replyLost)])
            (withPort s p { s.ports[p] with cch := { x with counters := { x.counters with
              checkErr := 0, fragment := 0, overrun := 0, replyLost := 0 } } }))) ∧
      (arg ph s 1 = 1 →
        exec (.countersRead ph) s =
          .next (done ph .ok (fields [(0, x.counters.refused)]) (fields [(0, x.counters.rate)])
            (fields [(0, x.counters.tableFull)]) 0
            (withPort s p { s.ports[p] with cch := { x with counters := { x.counters with
              refused := 0, rate := 0, tableFull := 0 } } })))) ∧
  ∀ (ph : Phase) (s : State), Ready .refusalRead ph s →
    exec (.refusalRead ph) s =
      .next (done ph .ok (entryWords s.ntu.first).1 (entryWords s.ntu.first).2 (entryWords s.ntu.latest).1
        (entryWords s.ntu.latest).2 { s with ntu := { s.ntu with first := none, latest := none } })

/-! ### Highway and Sweep Timer commands -/

/-- HIGHWAY_READ (R142) and HIGHWAY_SET (R141): the settings that the commands read and write. -/
def Sys2Proof.Spec.HighwayCommandsReadAndSet : Prop :=
  (∀ (ph : Phase) (s : State) (count : Nat), Ready .highwayRead ph s →
    count = (match s.hwi.alignment with
      | .seek => 0 | .confirm => s.hwi.confirmCount | .aligned => s.hwi.missCount) →
    exec (.highwayRead ph) s =
      .next (done ph .ok
        (fields [(14, code [Alignment.seek, .confirm, .aligned] s.hwi.alignment), (12, count), (0, s.hwi.offset.val)])
        (fields [(0, numberOr s.hwi.expected 0xFFFF)]) (fields [(0, s.hwi.idleCode.toNat)]) (fields [(0, s.hwi.realign)])
        { s with hwi := { s.hwi with realign := 0 } })) ∧
  ∀ (ph : Phase) (s : State), Ready .highwaySet ph s →
    (127 < arg ph s 0 ∨ 255 < arg ph s 1 → exec (.highwaySet ph) s = .next (done0 ph .badArg s)) ∧
    ∀ o : Fin 128, arg ph s 0 = o.val → arg ph s 1 ≤ 255 →
      exec (.highwaySet ph) s =
        .next (done0 ph .ok { s with hwi := { s.hwi with offset := o, idleCode := BitVec.ofNat 8 (arg ph s 1) } })

/-- SWEEP_READ (R154) and SWEEP_SET (R153). A SWEEP_SET also drops a tick made and not yet taken (the model's count of
outstanding ticks, log 4: "that tick does not come"). -/
def Sys2Proof.Spec.SweepCommandsReadAndSet : Prop :=
  (∀ (ph : Phase) (s : State), Ready .sweepRead ph s →
    (1 < arg ph s 0 → exec (.sweepRead ph) s = .next (done0 ph .badArg s)) ∧
    (∀ (st position : Nat), arg ph s 0 = 0 →
      st = (match s.swt.sweep with | .idle => 0 | .qphase => 1 | .lphase _ => 2) →
      position = (match s.swt.sweep with | .idle | .qphase => 0xFF | .lphase n => n.val) →
      exec (.sweepRead ph) s =
        .next (done ph .ok (fields [(8, s.swt.prescaler), (0, position)])
          (fields [(14, st), (13, bit s.swt.pendingTick), (12, bit s.swt.running), (11, bit s.pins.hold)])
          (fields [(0, s.swt.modulo)]) (fields [(0, s.swt.overrun)]) { s with swt := { s.swt with overrun := 0 } })) ∧
    (arg ph s 0 = 1 →
      exec (.sweepRead ph) s =
        .next (done ph .ok (fields [(0, s.swt.prescalerCount)]) (fields [(0, s.swt.counter)]) 0 0 s))) ∧
  ∀ (ph : Phase) (s : State) (inRange : Prop), Ready .sweepSet ph s →
    (inRange ↔ argHigh ph s 0 ∈ [1, 2, 4, 8, 16, 32, 64, 128] ∧ arg ph s 1 ≠ 0 ∧ argLow ph s 0 ≤ 1) →
    (¬ inRange → exec (.sweepSet ph) s = .next (done0 ph .badArg s)) ∧
    (inRange →
      exec (.sweepSet ph) s =
        .next (done0 ph .ok { s with swt := { s.swt with
          prescaler := argHigh ph s 0, modulo := arg ph s 1, prescalerCount := 0, counter := 0
          running := decide (argLow ph s 0 = 1)
          pendingTick := if argLow ph s 0 = 1 then s.swt.pendingTick else false
          ticksDue := 0 } }))

/-- HIGHWAY_READ, HIGHWAY_SET, SWEEP_READ and SWEEP_SET (R141, R142, R153, R154). -/
def Obligations.TimingCommandsReadAndSet : Prop := Spec.HighwayCommandsReadAndSet ∧ Spec.SweepCommandsReadAndSet

/-! ### The walk, ABORT and SOFT_RESET -/

namespace Sys2Proof.Spec

/-- The state with another walker. -/
def withWalker (s : State) (w : Walker) : State := { s with cpt := { s.cpt with walker := w } }

/-- Lease `r` is in the scope of a walk (R176). -/
def InScope (sc : Scope) (r : Lease) : Prop :=
  (match sc.reach with | .port p => r.port = p | .group g => r.group = g | .all => True) ∧
    (r.pinned = false ∨ sc.pinned = true) ∧ (r.origin = .signaled ∨ sc.host = true)

/-- The arguments of RETIRE_SCOPE name the scope `sc` (R175). -/
def NamesScope (ph : Phase) (s : State) (sc : Scope) : Prop :=
  (match sc.reach with
    | .port p => argHigh ph s 0 = 0 ∧ argLow ph s 0 = p.val
    | .group g => argHigh ph s 0 = 1 ∧ argLow ph s 0 = g.val
    | .all => argHigh ph s 0 = 2) ∧
    sc.pinned = argBit ph s 1 1 ∧ sc.host = argBit ph s 1 0

/-- The port after SOFT_RESET CLEAR (R90, R110, R128; R115 for the fault input). -/
def portCleared (x : Port) : Port :=
  { Port.initial with lpi := { Lpi.initial with faultIn := x.lpi.faultIn, expected := x.lpi.expected } }

/-- The port after SOFT_RESET KEEP (R90, R110, R128). -/
def portKept (x : Port) : Port :=
  { x with
    cch := Cch.initial
    cmt := { x.cmt with
      committed := x.cmt.cbs, excess := x.cmt.ebs, committedCount := 0, excessCount := 0, committedDue := 0
      excessDue := 0 } }

end Sys2Proof.Spec

/-- RETIRE_SCOPE (R175): with arguments out of range it completes with BAD_ARG and no walk; otherwise, and unless an ABORT has
come before the walk start, the scope is set and the walk stands at lease 0 with count 0, BUSY still 1. The walk start of a
RETIRE_SCOPE that a SOFT_RESET of a valid mode abandons lapses (R182; that none is taken before its event: log 6). -/
def Obligations.RetireScopeStartsWalk : Prop :=
  ∀ s : State, s.pins.reset = false →
    -- written with BUSY 0 and started at once
    (s.cpt.inProgress = none →
      (2 < argHigh .whole s 0 ∨ (argHigh .whole s 0 = 0 ∧ 3 < argLow .whole s 0) ∨
          (argHigh .whole s 0 = 1 ∧ 31 < argLow .whole s 0) →
        exec (.retireScope .whole) s =
          .next (done0 .whole .badArg
            (withWalker s { s.cpt.walker with starting := false, abort := false, resetWaits := false }))) ∧
      (∀ sc : Scope, NamesScope .whole s sc →
        exec (.retireScope .whole) s =
          .next { s with cpt := { s.cpt with
            latched := s.cpt.args, collide := false, inProgress := some .retireScope
            walker := { starting := false, scope := some sc, position := 0, count := 0, abort := false,
                        resetWaits := false } } })) ∧
    -- the walk start of a command written before, with no ABORT
    (s.cpt.walker.starting = true → s.cpt.walker.abort = false → s.cpt.inProgress ≠ some .softReset →
      (2 < argHigh .take s 0 ∨ (argHigh .take s 0 = 0 ∧ 3 < argLow .take s 0) ∨
          (argHigh .take s 0 = 1 ∧ 31 < argLow .take s 0) →
        exec (.retireScope .take) s = .next (done0 .take .badArg (withWalker s { s.cpt.walker with starting := false }))) ∧
      (∀ sc : Scope, NamesScope .take s sc →
        exec (.retireScope .take) s =
          .next (withWalker s { s.cpt.walker with starting := false, scope := some sc, position := 0, count := 0 }))) ∧
    (s.cpt.inProgress = some .softReset → s.cpt.walker.resetWaits = false → exec (.retireScope .take) s = .next s)

/-- WALK_VISIT (R176 to R178): a live lease in the scope is retired with cause SCOPE and counted, any other record is passed
over, the position advances by one, and the visit to lease 127 completes the command with the count and position 128. When
a SOFT_RESET of a valid mode is in progress RETIRE_SCOPE makes no completion (R182), and that visit only advances the walk
(log 6). -/
def Obligations.WalkVisitsLease : Prop :=
  ∀ (s t : State) (sc : Scope) (l : LeaseNo) (count : Nat), s.pins.reset = false → s.cpt.walker.abort = false →
    s.cpt.walker.scope = some sc → s.cpt.walker.position = l.val →
    ((Live s.lsv.leases[l] ∧ InScope sc s.lsv.leases[l] ∧ count = s.cpt.walker.count + 1 ∧
        t = s.afterTables none (s.lsv.retire (some sc) .scope false l)) ∨
      (¬ (Live s.lsv.leases[l] ∧ InScope sc s.lsv.leases[l]) ∧ count = s.cpt.walker.count ∧ t = s)) →
    (l.val ≠ 127 ∨ (s.cpt.inProgress = some .softReset ∧ s.cpt.walker.resetWaits = false) →
      exec .walkVisit s = .next (withWalker t { s.cpt.walker with position := l.val + 1, count := count })) ∧
    (l.val = 127 → s.cpt.inProgress ≠ some .softReset →
      exec .walkVisit s =
        .next (done .take .ok (fields [(0, count)]) (fields [(0, 128)]) 0 0
          (withWalker t { s.cpt.walker with scope := none, position := 128, count := count })))

/-- ABORT (R169, R171, R180) and the walk's ending: with BUSY 0 it completes with NONE; during a RETIRE_SCOPE it sets the
walker's abort alone; during any other command it collides, a SOFT_RESET that waits for a walk's ending among them (the
model's choice, log 6; the row is also the taking of an ABORT in progress, log 5). After it the walk start completes ABORTED
with count 0 and position 0, and a walk in flight with its count and position. A SOFT_RESET of a bad mode completes with
BAD_ARG in the operation of the walk start or the ending it waits for; one of a valid mode lets both lapse (R182; none is
taken before its event: log 6). That the walker keeps abort, position and count after a completion is the model's choice
(log 19), and so is the mark resetWaits (log 6). -/
def Obligations.AbortEndsWalk : Prop :=
  ∀ s : State, s.pins.reset = false →
    (∀ ph : Phase, Ready .abort ph s → exec .abort s = .next (done0 ph .none s)) ∧
    (∀ row : Instr, row = .abort ∨ row = .registerWrite 0 0x31 → s.cpt.inProgress = some .retireScope →
      exec row s = .next (withWalker s { s.cpt.walker with abort := true })) ∧
    (∀ c : HostCmd, s.cpt.inProgress = some c → c ≠ .retireScope → c ≠ .abort →
      exec .abort s = .next { s with cpt := { s.cpt with collide := true } }) ∧
    -- the walk start after an abort
    (s.cpt.walker.starting = true → s.cpt.walker.abort = true → s.cpt.walker.resetWaits = false →
      s.cpt.inProgress ≠ some .softReset →
      exec (.retireScope .take) s =
        .next (done0 .take .aborted (withWalker s { s.cpt.walker with starting := false, scope := none }))) ∧
    (s.cpt.walker.starting = true → s.cpt.walker.abort = true → s.cpt.walker.resetWaits = true →
      exec (.retireScope .take) s =
        .next (done0 .take .badArg
          (withWalker s { s.cpt.walker with starting := false, scope := none, resetWaits := false }))) ∧
    -- the ending of a walk in flight
    (s.cpt.walker.scope.isSome = true → s.cpt.walker.abort = true → s.cpt.walker.resetWaits = false →
      s.cpt.inProgress ≠ some .softReset →
      exec .walkEnding s =
        .next (done .take .aborted (fields [(0, s.cpt.walker.count)]) (fields [(0, s.cpt.walker.position)]) 0 0
          (withWalker s { s.cpt.walker with starting := false, scope := none }))) ∧
    (s.cpt.walker.scope.isSome = true → s.cpt.walker.abort = true → s.cpt.walker.resetWaits = true →
      exec .walkEnding s =
        .next (done0 .take .badArg
          (withWalker s { s.cpt.walker with starting := false, scope := none, resetWaits := false }))) ∧
    (s.cpt.inProgress = some .softReset → s.cpt.walker.resetWaits = false → exec .walkEnding s = .next s)

/-- SOFT_RESET (R169, R171, R181, R182, and the reset rule of each chapter): taken in one of its forms (log 5), or written
during a RETIRE_SCOPE, CLEAR and KEEP set every block at its values for the mode and complete with OK; another mode
completes with BAD_ARG, or during a RETIRE_SCOPE ends the walk as an ABORT would and waits for that ending. During any other
command it collides, and while a SOFT_RESET waits as well (log 6). The model's choices: the Payload Switch keeps its
selections and the frames begun (log 17), the word on the data lines is kept (log 14), outstanding refills and ticks are
dropped (log 4), the mark resetWaits (log 6), and COLLIDE 0 after the event also where a write has collided since the
SOFT_RESET was taken (R181, R183 against R171, R172; log 26). -/
def Obligations.SoftResetByMode : Prop :=
  ∀ s : State, s.pins.reset = false →
    (∀ ph : Phase,
      (Ready .softReset ph s ∧ (ph = .take → s.cpt.walker.resetWaits = false)) ∨
        (ph = .whole ∧ s.cpt.inProgress = some .retireScope) →
      (arg ph s 0 = 0 →
        exec .softReset s =
          .next { State.reset with
            ports := tab 4 fun p => portCleared s.ports[p]
            psw := s.psw, cpt := { Cpt.initial with dataOut := s.cpt.dataOut }, ntu := event 1 Ntu.initial
            pins := s.pins, pending := s.pending }) ∧
      (arg ph s 0 = 1 →
        exec .softReset s =
          .next { s with
            ports := tab 4 fun p => portKept s.ports[p]
            cpr := Cpr.initial
            swt := { Swt.initial with
              running := s.swt.running, prescaler := s.swt.prescaler, modulo := s.swt.modulo }
            hwi := { Hwi.initial with offset := s.hwi.offset, idleCode := s.hwi.idleCode }
            cpt := { Cpt.initial with args := s.cpt.args, dataOut := s.cpt.dataOut }
            ntu := event 1 { Ntu.initial with ien := s.ntu.ien } })) ∧
    (∀ ph : Phase, Ready .softReset ph s → (ph = .take → s.cpt.walker.resetWaits = false) → 1 < arg ph s 0 →
      exec .softReset s =
        .next (done0 ph .badArg (withWalker s { s.cpt.walker with resetWaits := false }))) ∧
    (s.cpt.inProgress = some .retireScope →
      (arg .write s 0 ≤ 1 →
        exec (.registerWrite 0 0x3E) s =
          .next { s with cpt := { s.cpt with
            latched := s.cpt.args, collide := false, inProgress := some .softReset
            walker := { s.cpt.walker with resetWaits := false } } }) ∧
      (∀ row : Instr, row = .softReset ∨ row = .registerWrite 0 0x3E → 1 < arg .write s 0 →
        exec row s =
          .next { s with cpt := { s.cpt with
            latched := s.cpt.args, collide := false, inProgress := some .softReset
            walker := { s.cpt.walker with abort := true, resetWaits := true } } })) ∧
    (∀ c : HostCmd, s.cpt.inProgress = some c →
      (c ≠ .retireScope ∧ c ≠ .softReset) ∨ (c = .softReset ∧ s.cpt.walker.resetWaits = true) →
      exec .softReset s = .next { s with cpt := { s.cpt with collide := true } })

/-! ### Interrupt status and the window -/

/-- The interrupt status (R161 to R164): a read returns the bits as they stand, ATTN following the attention list, and makes
every read mark yes; a write clears the bits written 1 whose mark is yes and no other; a write of IEN replaces the seven
enables, which read back as written; and the line is asserted exactly while an enabled bit of ISTAT is 1, and released while
RESET is asserted. -/
def Obligations.InterruptStatusAndLine : Prop :=
  (∀ s : State, s.pins.reset = false →
    ∃ w : Word,
      exec .istatRead s = .next { s with cpt := { s.cpt with dataOut := w }, ntu := { s.ntu with marks := 0x7E } } ∧
      (w.getLsbD 0 = true ↔ s.lsv.attention ≠ []) ∧
      (∀ b : Nat, 1 ≤ b → b ≤ 6 → w.getLsbD b = s.ntu.status.getLsbD b) ∧
      (∀ b : Nat, 7 ≤ b → w.getLsbD b = false)) ∧
  (∀ (s : State) (w : Word), s.pins.reset = false →
    ∃ st : BitVec 7,
      exec (.istatWrite w) s = .next { s with ntu := { s.ntu with status := st } } ∧
      (∀ b : Nat, 1 ≤ b → b ≤ 6 →
        st.getLsbD b = (s.ntu.status.getLsbD b && !(w.getLsbD b && s.ntu.marks.getLsbD b))) ∧
      st.getLsbD 0 = s.ntu.status.getLsbD 0) ∧
  (∀ (s : State) (w : Word), s.pins.reset = false →
    ∃ ien : BitVec 7,
      exec (.ienWrite w) s = .next { s with ntu := { s.ntu with ien := ien } } ∧
      (∀ b : Nat, b ≤ 6 → ien.getLsbD b = w.getLsbD b)) ∧
  (∀ s : State, s.pins.reset = false → s.readWord 11 = s.ntu.ien.setWidth 16) ∧
  (∀ s : State, s.irqLine = true ↔
    s.pins.reset = false ∧
      ((s.ntu.ien.getLsbD 0 = true ∧ s.lsv.attention ≠ []) ∨
        ∃ b : Nat, 1 ≤ b ∧ b ≤ 6 ∧ s.ntu.ien.getLsbD b = true ∧ s.ntu.status.getLsbD b = true))

namespace Sys2Proof.Spec

/-- The command codes of the catalogue (R174). -/
def catalogue : List (Nat × HostCmd) :=
  [(0x01, .leaseRead), (0x02, .leaseFind), (0x03, .leaseCreate), (0x04, .leaseModify), (0x05, .leaseRetire),
    (0x06, .noticeTake), (0x08, .slotRead), (0x09, .slotReserve), (0x0A, .slotRelease), (0x0B, .leaseMove),
    (0x0C, .poolRead), (0x0D, .poolSet), (0x0E, .monitorSet), (0x0F, .monitorClear)] ++
  [(0x10, .groupRead), (0x11, .groupWrite), (0x12, .listenerRead), (0x18, .portRead), (0x19, .portSet),
    (0x1A, .meterRead), (0x1B, .meterSet), (0x1C, .countersRead), (0x20, .highwayRead), (0x21, .highwaySet),
    (0x22, .sweepRead), (0x23, .sweepSet), (0x28, .refusalRead), (0x30, .retireScope), (0x31, .abort), (0x3E, .softReset)]

/-- The result codes (R173). -/
def resultCode : ResultCode → Nat
  | .ok => 0x00 | .notLive => 0x01 | .inUse => 0x02 | .badArg => 0x03 | .tableFull => 0x04 | .talkBusy => 0x05
  | .slotGuard => 0x06 | .groupFull => 0x07 | .portBusy => 0x08 | .groupBusy => 0x09 | .tapBusy => 0x0A | .empty => 0x0B
  | .aborted => 0x0C | .none => 0x0D | .unknown => 0x0F | .portClosed => 0x10

end Sys2Proof.Spec

/-- Writes of the window words (R169, R171, R174, R187, R188): ARG0..ARG3 take the word, at any time; PSTAT, the RES words, ID
and words 13 to 15 ignore it; ISTAT and IEN take it as their own rows do; a write of CMD is the write of the command that the
catalogue gives the word, and a word that names none completes with UNKNOWN, changing nothing else, or collides while BUSY
is 1. -/
def Sys2Proof.Spec.WindowWrites : Prop :=
  ∀ (s : State) (w : Word), s.pins.reset = false →
    (∀ n : Fin 16, ∃ t, exec (.registerWrite n w) s = .next t) ∧
    (∀ (n : Fin 16) (i : Fin 4), n.val = i.val + 1 →
      exec (.registerWrite n w) s = .next { s with cpt := { s.cpt with args := upd s.cpt.args i w } }) ∧
    (∀ n : Fin 16, (5 ≤ n.val ∧ n.val ≤ 9) ∨ 12 ≤ n.val → exec (.registerWrite n w) s = .next s) ∧
    exec (.registerWrite 10 w) s = exec (.istatWrite w) s ∧ exec (.registerWrite 11 w) s = exec (.ienWrite w) s ∧
    (∀ (n : Nat) (c : HostCmd), (n, c) ∈ catalogue → w.toNat = n →
      exec (.registerWrite 0 w) s = exec (hostRow c .write) s) ∧
    ((∀ (n : Nat) (c : HostCmd), (n, c) ∈ catalogue → w.toNat ≠ n) →
      exec (.registerWrite 0 w) s = exec (.unknownCommand w) s ∧
      (s.cpt.inProgress = none → exec (.unknownCommand w) s = .next (done0 .whole .unknown s)) ∧
      (s.cpt.inProgress ≠ none →
        exec (.unknownCommand w) s = .next { s with cpt := { s.cpt with collide := true } }))

/-- Reads of the window words (R173, R187, R188): ID in every state, 0000h elsewhere while RESET is asserted, the argument and
result words, BUSY, COLLIDE and the last result's code, the interrupt status and enables, and 0000h for CMD and words 13 to
15. -/
def Sys2Proof.Spec.WindowReads : Prop :=
  ∀ s : State,
    s.readWord 12 = 0x4128 ∧ (s.pins.reset = true → ∀ n : Fin 16, n ≠ 12 → s.readWord n = 0) ∧
    (s.pins.reset = false →
      s.readWord 0 = 0 ∧ (∀ n : Fin 16, 13 ≤ n.val → s.readWord n = 0) ∧
      (∀ (n : Fin 16) (i : Fin 4), n.val = i.val + 1 → s.readWord n = s.cpt.args[i]) ∧
      (∀ (n : Fin 16) (i : Fin 4), n.val = i.val + 5 → s.readWord n = s.cpt.res[i]) ∧
      s.readWord 9 = fields [(15, bit s.cpt.inProgress.isSome), (14, bit s.cpt.collide), (0, resultCode s.cpt.last)] ∧
      ((s.readWord 10).getLsbD 0 = true ↔ s.lsv.attention ≠ []) ∧
      (∀ b : Nat, 1 ≤ b → b ≤ 6 → (s.readWord 10).getLsbD b = s.ntu.status.getLsbD b) ∧
      (∀ b : Nat, b ≤ 6 → (s.readWord 11).getLsbD b = s.ntu.ien.getLsbD b) ∧
      ∀ b : Nat, 7 ≤ b → (s.readWord 10).getLsbD b = false ∧ (s.readWord 11).getLsbD b = false)

/-- The codes that other statements use by the model's names: the refusal reasons (R87), the state in a STATUS (R86), the
notice that each cause of a retirement gives (R22) and the bit of each notice kind in a notice set (R189), and the channels of
the two formats (R114). A FREE or RETIRED record is in no STATUS, and its field 0 is the model's (log 18). -/
def Sys2Proof.Spec.FieldCodes : Prop :=
  ([.badKind, .badChan, .portShut, .notMember, .rate, .poolLow, .tableFull, .inUse, .noLease, .talkBusy, .groupFull,
      .scopeBusy, .badGroup, .hostOwned] : List Reason).map (fun x => x.toCode.val) =
    [1, 2, 3, 4, 5, 6, 7, 8, 9, 10, 11, 12, 13, 14] ∧
  ([.free, .active, .waiting, .conditioned, .retired] : List LeaseState).map (fun x => x.field.val) = [0, 1, 2, 3, 0] ∧
  (RetireCause.notice .lineRelease = some .released ∧ RetireCause.notice .expired = some .expired ∧
    RetireCause.notice .preempted = some .preempted ∧ RetireCause.notice .linkLost = some .linkLost ∧
    RetireCause.notice .host = none ∧ RetireCause.notice .scope = none) ∧
  ([.expired, .preempted, .linkLost, .released, .conditioned, .restored, .talkerChange] : List Notice).map Notice.bit =
    [0, 1, 2, 3, 4, 5, 6] ∧
  (∀ c : ChanNo, Format.bearer .f32 c = true ↔ (1 ≤ c.val ∧ c.val ≤ 15) ∨ (17 ≤ c.val ∧ c.val ≤ 31)) ∧
  (∀ c : ChanNo, Format.bearer .f24 c = true ↔ 1 ≤ c.val ∧ c.val ≤ 23) ∧
  Format.signalling .f32 = 16 ∧ Format.signalling .f24 = 24

/-- The register window: its writes and its reads, with the command and result codes; and the codes of the fields and of the
notices (R22, R86, R87, R114, R169, R171, R173, R174, R187 to R189). -/
def Obligations.RegisterWindowAndCodes : Prop := Spec.WindowWrites ∧ Spec.WindowReads ∧ Spec.FieldCodes

/-! ### The Claim Channel -/

namespace Sys2Proof.Spec

/-- The port has its signalling channel in this frame (R71, R72, R114): it is not CLOSED, and the format in force in the frame
is its own, which it is not in the rest of a frame in which PORT_SET reformats and opens it (log 25). -/
def Signals (s : State) (p : PortNo) : Prop :=
  s.ports[p].lpi.admin ≠ .closed ∧ s.psw.formats[p] = s.ports[p].lpi.format

/-- The port assembles what it receives (R72), from the first byte of the channel of its own format on (R78, log 25). -/
def Assembles (s : State) (p : PortNo) : Prop :=
  s.pins.reset = false ∧ Signals s p ∧
    (s.ports[p].lpi.condition = .normal ∨ s.ports[p].lpi.condition = .pending)

/-- A byte with the start marker (R73, R186). -/
def Marked (b : Byte) : Prop := b.getLsbD 7 = true

/-- The state with the Claim Channel of port `p` replaced. -/
def withCch (s : State) (p : PortNo) (c : Cch) : State := withPort s p { s.ports[p] with cch := c }

/-- Message `m` has the fields that the four bytes carry, as the layout of R73 and R186 places them. -/
def Carries (m : Message) (b1 b2 b3 b4 : Byte) : Prop :=
  m.kind.val = b1.toNat / 16 % 8 ∧ m.tag.val = b1.toNat % 16 ∧ m.lkind.val = b2.toNat / 32 % 4 ∧
    m.channel.val = b2.toNat % 32 ∧ m.cls.val = b3.toNat / 32 % 4 ∧ m.group.val = b3.toNat % 32 ∧
    m.check.val = b4.toNat % 128

/-- The check of R74: the four values, without the start markers, sum to a multiple of 128. -/
def ChecksOut (b1 b2 b3 b4 : Byte) : Prop :=
  (b1.toNat % 128 + b2.toNat % 128 + b3.toNat % 128 + b4.toNat % 128) % 128 = 0

/-- One more event of a counter (R89). -/
def counted (n : Nat) : Nat := min (n + 1) 65535

/-- The CPR submits a serving request when a port is eligible (R91). -/
def requesting (s : State) : State :=
  { s with cpr := { s.cpr with
    requested := s.cpr.requested ||
      decide (∃ p : PortNo, s.ports[p].cch.bufA.isSome = true ∧ s.ports[p].cch.queue.length ≤ 6) } }

end Sys2Proof.Spec

/-- Bytes of a message in progress (R72, R75, R76): a header byte starts a message, and in GATHER it also counts one
FRAGMENT; a continuation byte that is not the fourth is appended. A port that does not assemble ignores what it receives, and
so does one opened with another format until a frame begins, so that no message moves from one channel to another (R71, R78;
log 25). -/
def Obligations.SignallingBytesAssembled : Prop :=
  ∀ (s : State) (p : PortNo) (b : Byte) (x : Cch), x = s.ports[p].cch →
    (Assembles s p →
      (Marked b → x.assembly = .hunt →
        exec (.headerByteInHunt p b) s = .next (withCch s p { x with assembly := .gather1 b })) ∧
      (Marked b → x.assembly ≠ .hunt →
        exec (.headerByteInGather p b) s =
          .next (withCch s p { x with
            assembly := .gather1 b
            counters := { x.counters with fragment := counted x.counters.fragment } })) ∧
      (∀ b1 : Byte, ¬ Marked b → x.assembly = .gather1 b1 →
        exec (.continuationByteInGather p b) s = .next (withCch s p { x with assembly := .gather2 b1 b })) ∧
      (∀ b1 b2 : Byte, ¬ Marked b → x.assembly = .gather2 b1 b2 →
        exec (.continuationByteInGather p b) s = .next (withCch s p { x with assembly := .gather3 b1 b2 b }))) ∧
    (¬ Assembles s p →
      exec (.headerByteInHunt p b) s = .next s ∧ exec (.headerByteInGather p b) s = .next s ∧
      exec (.continuationByteInGather p b) s = .next s ∧ exec (.messageComplete p b) s = .next s)

/-- The fourth byte of a message at a port that assembles (R77, R74, R79, R186): assembly returns to HUNT; a message that
fails the check counts one CHECK_ERR; one that passes enters buffer A, then B, with all its fields as received, or counts
one OVERRUN. -/
def Obligations.MessageCompleteChecked : Prop :=
  ∀ (s : State) (p : PortNo) (b1 b2 b3 b4 : Byte) (x : Cch) (m : Message), Assembles s p →
    x = s.ports[p].cch → x.assembly = .gather3 b1 b2 b3 → ¬ Marked b4 → Carries m b1 b2 b3 b4 →
    (¬ ChecksOut b1 b2 b3 b4 →
      exec (.messageComplete p b4) s =
        .next (requesting (withCch s p { x with
          assembly := .hunt
          counters := { x.counters with checkErr := counted x.counters.checkErr } }))) ∧
    (ChecksOut b1 b2 b3 b4 → x.bufA = none →
      exec (.messageComplete p b4) s =
        .next (requesting (withCch s p { x with assembly := .hunt, bufA := some m }))) ∧
    (ChecksOut b1 b2 b3 b4 → x.bufA ≠ none → x.bufB = none →
      exec (.messageComplete p b4) s =
        .next (requesting (withCch s p { x with assembly := .hunt, bufB := some m }))) ∧
    (ChecksOut b1 b2 b3 b4 → x.bufA ≠ none → x.bufB ≠ none →
      exec (.messageComplete p b4) s =
        .next (requesting (withCch s p { x with
          assembly := .hunt, counters := { x.counters with overrun := counted x.counters.overrun } })))

/-- The fourth byte of the head reply is sent (R82, R74): the reply leaves the queue, the next becomes the head, and the
line carries the check byte, which brings the sum of the four values to a multiple of 128, on the signalling channel of the
format in force in the frame (R71, R114; log 25). Where no fourth byte comes next, because the port is CLOSED or its format
is not yet in force, its queue is empty or fewer bytes have been sent, the row changes nothing (the model's choice, log 2).
The row apart from the line frame is the model's (log 8). -/
def Obligations.ReplySentLeavesQueue : Prop :=
  (∀ (s : State) (p : PortNo), ¬ Signals s p ∨ s.ports[p].cch.queue = [] ∨ s.ports[p].cch.sent ≠ 3 →
    exec (.replySent p) s = .next s) ∧
  ∀ (s : State) (p : PortNo) (r : Reply) (rest : List Reply) (x : Cch), s.pins.reset = false →
    Signals s p → x = s.ports[p].cch → x.queue = r :: rest → x.sent = 3 →
    ∃ check : Byte,
      exec (.replySent p) s =
        .next (requesting { withCch s p { x with queue := rest, sent := 0 } with
          psw := { s.psw with
            lineTx := upd s.psw.lineTx p (upd s.psw.lineTx[p] s.psw.formats[p].signalling check) } }) ∧
      check.toNat < 128 ∧
      ((code [ReplyKind.grant, .wait, .refuse, .released, .status, .revoked] r.kind + 1) * 16 + r.tag.val +
        (r.second.val * 32 + r.channel.val) + r.third.val + check.toNat) % 128 = 0

/-! ### Servings -/

namespace Sys2Proof.Spec

/-- A port is eligible (R91). -/
def Eligible (s : State) (p : PortNo) : Prop :=
  s.ports[p].cch.bufA.isSome = true ∧ s.ports[p].cch.queue.length ≤ 6

/-- The serving request that is taken serves message `m` of port `p`: a request is outstanding, `p` is the first eligible port
in the order that follows the pointer, the pointer's own port last, and `m` stands in its buffer A (R91 to R93). -/
def Serves (s : State) (p : PortNo) (m : Message) : Prop :=
  s.pins.reset = false ∧ s.cpr.requested = true ∧ s.ports[p].cch.bufA = some m ∧
    ∃ k : Fin 4, p = s.cpr.pointer + k + 1 ∧ Eligible s p ∧ ∀ j : Fin 4, j < k → ¬ Eligible s (s.cpr.pointer + j + 1)

/-- The counters after a solicited reply: a REFUSE raises REFUSED, and RATE or TABLEFULL for those reasons (R83, R89). -/
def countReply (k : Counters) (reason : Option Reason) : Counters :=
  match reason with
  | none => k
  | some x => { k with
      refused := counted k.refused
      rate := if x = .rate then counted k.rate else k.rate
      tableFull := if x = .tableFull then counted k.tableFull else k.tableFull }

/-- The Notice Unit after a solicited reply: a REFUSE becomes LATEST, and FIRST if that is absent, and sets REFUSE (R165). -/
def noteReply (n : Ntu) (p : PortNo) (m : Message) (reason : Option Reason) : Ntu :=
  match reason with
  | none => n
  | some x =>
    let e : Refused := { port := p, channel := m.channel, lkind := m.lkind, tag := m.tag, reason := x }
    event 4 { n with first := (match n.first with | none => some e | some f => some f), latest := some e }

/-- The serving of port `p`'s message `m` that has made the table operation `o`, left the meter `meter` and answered with
`reply` (R79, R83, R91 to R93, R165): the message is consumed and B moves to A, the unsolicited replies are placed before the
solicited one, the pointer is `p`, and a request is outstanding again if a port is eligible. -/
def served (s : State) (p : PortNo) (m : Message) (o : TableOp) (meter : Cmt) (reply : Reply) (reason : Option Reason) :
    State :=
  let x := s.ports[p]
  let placed := placeAll (some p)
    (upd s.ports p { x with cmt := meter, cch := { x.cch with bufA := x.cch.bufB, bufB := none } }) o.out
  let y := placed[p].cch
  let ports := upd placed p
    { placed[p] with cch := { y with queue := y.queue ++ [reply], counters := countReply y.counters reason } }
  requesting { s with
    lsv := o.lsv, ports := ports, cpr := { pointer := p, requested := false }
    ntu := noteReply (if o.tapEnded = true then event 6 s.ntu else s.ntu) p m reason }

/-- A table operation that leaves the tables `v` and makes no unsolicited reply. -/
def quiet (v : Lsv) : TableOp := { lsv := v, out := [], tapEnded := false }

/-- A solicited reply with the message's tag and channel (R87). -/
def answer (m : Message) (kind : ReplyKind) (second : Fin 4) (third : Fin 128) : Reply :=
  { kind := kind, tag := m.tag, second := second, channel := m.channel, third := third }

/-- A refused message: the tables stay, and the REFUSE echoes the lease kind field and the channel (R87, R93). -/
def refusedState (s : State) (p : PortNo) (m : Message) (meter : Cmt) (reason : Reason) : State :=
  served s p m (quiet s.lsv) meter (answer m .refuse m.lkind reason.toCode) (some reason)

/-- Steps 1 to 5 of R98: the first that fails. -/
def earlyRefusal (s : State) (p : PortNo) (m : Message) : Option Reason :=
  if s.ports[p].lpi.admin = .drain then some .portShut
  else if s.ports[p].lpi.format.bearer m.channel = false then some .badChan
  else if m.lkind = 3 then some .badKind
  else if (match s.cpt.walker.scope with
      | none => false
      | some sc => match sc.reach with
        | .port q => decide (q = p)
        | .group g => decide (g = m.group)
        | .all => true) = true then some .scopeBusy
  else if s.lsv.chanMap[p][m.channel] ≠ none then some .inUse
  else if s.lsv.groups[m.group].enabled = false then some .badGroup
  else if s.lsv.groups[m.group].members.getLsbD p.val = false ∧ s.lsv.groups[m.group].admitNonMember = false then
    some .notMember
  else none

/-- A CLAIM that finds a token and a FREE record (R96, R98 steps 1 to 7): the margin of its colour and the meter after the
token is taken. -/
def Metered (s : State) (p : PortNo) (m : Message) (n : LeaseNo) (margin : Nat) (meter : Cmt) : Prop :=
  earlyRefusal s p m = none ∧ LowestFree s.lsv n ∧
    ((0 < s.ports[p].cmt.committed ∧ margin = 0 ∧
        meter = { s.ports[p].cmt with committed := s.ports[p].cmt.committed - 1 }) ∨
      (s.ports[p].cmt.committed = 0 ∧ 0 < s.ports[p].cmt.excess ∧ margin = s.ports[p].cmt.margin ∧
        meter = { s.ports[p].cmt with excess := s.ports[p].cmt.excess - 1 }))

/-- The record an admitted CLAIM creates (R100). -/
def claimed (p : PortNo) (m : Message) (k : LeaseKind) : Lease :=
  { state := .free, kind := k, origin := .signaled, port := p, channel := m.channel, group := m.group, cls := m.cls,
    slot := none, pinned := false, code := none, idle := 0, tag := some m.tag, notices := 0, cause := none }

end Sys2Proof.Spec

/-- A serving request (R91, R92): a request taken with no port eligible lapses, the pointer unchanged; without a request
outstanding the row changes nothing (the model's choice, log 2); and a request taken with an eligible port sets the pointer to
the first in the order and consumes one message of that port and no other. -/
def Obligations.ServingTurn : Prop :=
  (∀ s : State, s.pins.reset = false → s.cpr.requested = true → (∀ p : PortNo, ¬ Eligible s p) →
    exec .serving s = .next { s with cpr := { s.cpr with requested := false } }) ∧
  (∀ s : State, s.cpr.requested = false → exec .serving s = .next s) ∧
  ∀ (s : State) (p : PortNo) (m : Message), Serves s p m →
    ∃ t, exec .serving s = .next t ∧ t.cpr.pointer = p ∧
      t.ports[p].cch.bufA = s.ports[p].cch.bufB ∧ t.ports[p].cch.bufB = none ∧
      (∀ q : PortNo, q ≠ p → t.ports[q].cch.bufA = s.ports[q].cch.bufA ∧ t.ports[q].cch.bufB = s.ports[q].cch.bufB ∧
        t.ports[q].cmt = s.ports[q].cmt) ∧
      (∃ reply : Reply, t.ports[p].cch.queue.getLast? = some reply ∧ reply.tag = m.tag ∧ reply.channel = m.channel)

/-- A served REFRESH (R105): NOLEASE for an empty entry, HOSTOWNED for a HOST lease, otherwise the idle count is 0, the tag
is the message's, and STATUS reports the state and, for ACTIVE, the slot. -/
def Sys2Proof.Spec.RefreshRenewsLease : Prop :=
  ∀ (s : State) (p : PortNo) (m : Message), Serves s p m → m.kind = 3 →
    (s.lsv.chanMap[p][m.channel] = none →
      exec .serving s = .next (refusedState s p m s.ports[p].cmt .noLease)) ∧
    ∀ (l : LeaseNo) (r : Lease), s.lsv.chanMap[p][m.channel] = some l → r = s.lsv.leases[l] →
      (r.origin = .host → exec .serving s = .next (refusedState s p m s.ports[p].cmt .hostOwned)) ∧
      (r.origin = .signaled → ∀ (second : Fin 4) (shown : Fin 128),
        ((r.state = .active ∧ second = 1 ∧
            ((r.kind ≠ .listen ∧ r.slot = some shown) ∨
              ∃ t : LeaseNo, r.kind = .listen ∧ s.lsv.groups[r.group].talker = some t ∧ s.lsv.leases[t].slot = some shown)) ∨
          (r.state = .waiting ∧ second = 2 ∧ shown = 0) ∨ (r.state = .conditioned ∧ second = 3 ∧ shown = 0)) →
        exec .serving s =
          .next (served s p m
            (quiet { s.lsv with leases := upd s.lsv.leases l { r with idle := 0, tag := some m.tag } })
            s.ports[p].cmt (answer m .status second shown) none))

/-- A served QUERY (R106) changes nothing in the tables; STATUS reports NONE for an empty entry, and the state of a live
lease of either origin with, for ACTIVE, its slot or its talker's. -/
def Sys2Proof.Spec.QueryReportsState : Prop :=
  ∀ (s : State) (p : PortNo) (m : Message), Serves s p m → m.kind = 4 →
    (s.lsv.chanMap[p][m.channel] = none →
      exec .serving s = .next (served s p m (quiet s.lsv) s.ports[p].cmt (answer m .status 0 0) none)) ∧
    ∀ (l : LeaseNo) (r : Lease), s.lsv.chanMap[p][m.channel] = some l → r = s.lsv.leases[l] →
      (∀ sl : SlotNo, r.kind ≠ .listen → r.state = .active → r.slot = some sl →
        exec .serving s = .next (served s p m (quiet s.lsv) s.ports[p].cmt (answer m .status 1 sl) none)) ∧
      (∀ (t : LeaseNo) (sl : SlotNo), r.kind = .listen → r.state = .active → s.lsv.groups[r.group].talker = some t →
        s.lsv.leases[t].slot = some sl →
        exec .serving s = .next (served s p m (quiet s.lsv) s.ports[p].cmt (answer m .status 1 sl) none)) ∧
      (r.state = .waiting →
        exec .serving s = .next (served s p m (quiet s.lsv) s.ports[p].cmt (answer m .status 2 0) none))

/-- A served REFRESH (R105) and a served QUERY (R106). -/
def Obligations.RefreshAndQueryAnswered : Prop := Spec.RefreshRenewsLease ∧ Spec.QueryReportsState

/-- A served RELEASE (R104): NOLEASE, HOSTOWNED, or the retirement with cause LINE_RELEASE answered RELEASED. The retirement
itself is stated by RetirementEndsLease. -/
def Obligations.ReleaseRetiresLease : Prop :=
  ∀ (s : State) (p : PortNo) (m : Message), Serves s p m → m.kind = 2 →
    (s.lsv.chanMap[p][m.channel] = none →
      exec .serving s = .next (refusedState s p m s.ports[p].cmt .noLease)) ∧
    ∀ (l : LeaseNo) (r : Lease), s.lsv.chanMap[p][m.channel] = some l → r = s.lsv.leases[l] →
      (r.origin = .host → exec .serving s = .next (refusedState s p m s.ports[p].cmt .hostOwned)) ∧
      (r.origin = .signaled → ∀ kind : Fin 4, kind.val = code [LeaseKind.duplex, .talk, .listen] r.kind →
        exec .serving s =
          .next (served s p m (s.lsv.retire s.cpt.walker.scope .lineRelease false l) s.ports[p].cmt
            (answer m .released kind 0) none))

/-- Refusals that do not depend on the lease kind (R93, R96, R98 steps 1 to 7): a message of a bad kind; the steps in order,
no token taken, for INUSE after a LEASE_CREATE too (R98 against R109; the model's choice, log 24); red, RATE; and a token
taken before TABLEFULL. -/
def Obligations.ClaimRefusedBeforeAdmission : Prop :=
  ∀ (s : State) (p : PortNo) (m : Message), Serves s p m →
    (m.kind ∉ [1, 2, 3, 4] → exec .serving s = .next (refusedState s p m s.ports[p].cmt .badKind)) ∧
    (m.kind = 1 → ∀ reason : Reason, earlyRefusal s p m = some reason →
      exec .serving s = .next (refusedState s p m s.ports[p].cmt reason)) ∧
    (m.kind = 1 → earlyRefusal s p m = none → s.ports[p].cmt.committed = 0 → s.ports[p].cmt.excess = 0 →
      exec .serving s = .next (refusedState s p m s.ports[p].cmt .rate)) ∧
    (m.kind = 1 → earlyRefusal s p m = none → (∀ l : LeaseNo, s.lsv.leases[l].state ≠ .free) →
      (0 < s.ports[p].cmt.committed →
        exec .serving s =
          .next (refusedState s p m { s.ports[p].cmt with committed := s.ports[p].cmt.committed - 1 } .tableFull)) ∧
      (s.ports[p].cmt.committed = 0 → 0 < s.ports[p].cmt.excess →
        exec .serving s =
          .next (refusedState s p m { s.ports[p].cmt with excess := s.ports[p].cmt.excess - 1 } .tableFull)))

/-- A CLAIM that takes a slot from the pool, DUPLEX or TALK in a group without a talker (R35, R36, R101, R102): POOLLOW
unless the free list is longer than the class's floor plus the margin of an amber claim, otherwise the head of the free list
and GRANT with it. What the creation does is stated by CreationMakesLease. -/
def Obligations.ClaimGrantedFromPool : Prop :=
  ∀ (s : State) (p : PortNo) (m : Message) (n : LeaseNo) (margin : Nat) (meter : Cmt) (k : LeaseKind), Serves s p m →
    m.kind = 1 → Metered s p m n margin meter →
    (m.lkind = 0 ∧ k = .duplex) ∨ (m.lkind = 1 ∧ k = .talk ∧ s.lsv.groups[m.group].talker = none) →
    (s.lsv.freeList.length ≤ s.lsv.floors[m.cls] + margin →
      exec .serving s = .next (refusedState s p m meter .poolLow)) ∧
    (∀ (sl : SlotNo) (rest : List SlotNo) (made : Lsv × List Unsolicited), s.lsv.freeList = sl :: rest →
      s.lsv.floors[m.cls] + margin < s.lsv.freeList.length →
      made = s.lsv.create s.cpt.walker.scope (faulty s p) (.taken sl) (claimed p m k) n →
      exec .serving s =
        .next (served s p m { lsv := made.1, out := made.2, tapEnded := false } meter (answer m .grant m.lkind sl) none))

/-- A TALK CLAIM in a group with talker `t` (R57, R58, R102): TALKBUSY unless the talker is SIGNALED, not pinned and of lower
class; otherwise the talker is retired PREEMPTED, its slot passes to the new lease, and the REVOKED comes before the GRANT. -/
def Obligations.ClaimPreemptsTalker : Prop :=
  ∀ (s : State) (p : PortNo) (m : Message) (n t : LeaseNo) (margin : Nat) (meter : Cmt), Serves s p m →
    m.kind = 1 → Metered s p m n margin meter → m.lkind = 1 → s.lsv.groups[m.group].talker = some t →
    (s.lsv.leases[t].origin = .host ∨ s.lsv.leases[t].pinned = true ∨ m.cls ≤ s.lsv.leases[t].cls →
      exec .serving s = .next (refusedState s p m meter .talkBusy)) ∧
    (∀ (sl : SlotNo) (gone : TableOp) (made : Lsv × List Unsolicited), s.lsv.leases[t].origin = .signaled →
      s.lsv.leases[t].pinned = false → s.lsv.leases[t].cls < m.cls → s.lsv.leases[t].slot = some sl →
      gone = s.lsv.retire s.cpt.walker.scope .preempted true t →
      made = gone.lsv.create s.cpt.walker.scope (faulty s p) (.passed sl) (claimed p m .talk) n →
      exec .serving s =
        .next (served s p m { lsv := made.1, out := gone.out ++ made.2, tapEnded := gone.tapEnded } meter
          (answer m .grant 1 sl) none))

namespace Sys2Proof.Spec

/-- A candidate of the victim search (R63). -/
def Candidate (v : Lsv) (g : GroupNo) (l : LeaseNo) : Prop :=
  l ∈ v.groups[g].listeners ∧ v.leases[l].origin = .signaled ∧ v.leases[l].pinned = false

/-- The victim of R63: a candidate of the lowest class, and of those the one nearest the tail. -/
def Victim (v : Lsv) (g : GroupNo) (l : LeaseNo) : Prop :=
  Candidate v g l ∧
    ∀ j : LeaseNo, Candidate v g j → v.leases[l].cls ≤ v.leases[j].cls ∧
      (v.leases[j].cls = v.leases[l].cls → v.groups[g].listeners.idxOf j ≤ v.groups[g].listeners.idxOf l)

/-- The answer to an admitted listener (R61, R103): WAIT, or GRANT with the slot `shown` of the group's talker. -/
def ListenerAnswer (v : Lsv) (m : Message) (reply : Reply) : Prop :=
  (v.groups[m.group].talker = none ∧ reply = answer m .wait 2 0) ∨
    ∃ (t : LeaseNo) (shown : SlotNo), v.groups[m.group].talker = some t ∧ v.leases[t].slot = some shown ∧
      reply = answer m .grant 2 shown

end Sys2Proof.Spec

/-- A LISTEN CLAIM (R62, R63, R103): GROUPFULL at cap 0; below the cap the listener is appended; at or above it the victim is
preempted, or the claim is refused GROUPFULL. A group's list names a lease once and its talker is no listener of it, and a
lease on a list is of that group (R55, R60). -/
def Obligations.ClaimJoinsListeners : Prop :=
  ∀ (s : State) (p : PortNo) (m : Message) (n : LeaseNo) (margin : Nat) (meter : Cmt) (g : Group), Serves s p m →
    m.kind = 1 → Metered s p m n margin meter → m.lkind = 2 → g = s.lsv.groups[m.group] → s.lsv.Grouped →
    (g.listenerCap = 0 → exec .serving s = .next (refusedState s p m meter .groupFull)) ∧
    (∀ (reply : Reply) (made : Lsv × List Unsolicited), g.listeners.length < g.listenerCap →
      ListenerAnswer s.lsv m reply →
      made = s.lsv.create s.cpt.walker.scope (faulty s p) .absent (claimed p m .listen) n →
      exec .serving s =
        .next (served s p m { lsv := made.1, out := made.2, tapEnded := false } meter reply none)) ∧
    (0 < g.listenerCap → g.listenerCap ≤ g.listeners.length →
      ((∀ l : LeaseNo, Candidate s.lsv m.group l → m.cls ≤ s.lsv.leases[l].cls) →
        exec .serving s = .next (refusedState s p m meter .groupFull)) ∧
      (∀ (b : LeaseNo) (reply : Reply) (gone : TableOp) (made : Lsv × List Unsolicited), Victim s.lsv m.group b →
        s.lsv.leases[b].cls < m.cls → ListenerAnswer s.lsv m reply →
        gone = s.lsv.retire s.cpt.walker.scope .preempted false b →
        made = gone.lsv.create s.cpt.walker.scope (faulty s p) .absent (claimed p m .listen) n →
        exec .serving s =
          .next (served s p m { lsv := made.1, out := gone.out ++ made.2, tapEnded := gone.tapEnded } meter reply
            none)))

/-! ### Frames and switching -/

namespace Sys2Proof.Spec

/-- A frame counter of an interval (R95): it returns to 0 when it reaches the interval. -/
def nextCount (interval count : Nat) : Nat := if interval ≤ count + 1 then 0 else count + 1

/-- One more outstanding event when the interval is complete (log 4). -/
def nextDue (interval count due : Nat) : Nat := if interval ≤ count + 1 then due + 1 else due

/-- The conditioning code used for a lease (R125). -/
def conditioningCode (s : State) (r : Lease) : Byte := r.code.getD s.ports[r.port].lpi.code

end Sys2Proof.Spec

/-- The start of an internal frame counts it everywhere (R95, R116, R118, R144): the meters, the hold and recovery timers
from the first frame that began after their start (log 12), and the Sweep Timer while it is RUNNING and HOLD is not asserted.
A completed count leaves its event outstanding (log 4). Tables, Claim Channels, Command Port and Notice Unit stay. -/
def Sys2Proof.Spec.FrameStartCounts : Prop :=
  ∀ s : State, s.pins.reset = false →
    ∃ t, exec .frameStart s = .next t ∧
      t.lsv = s.lsv ∧ t.cpr = s.cpr ∧ t.cpt = s.cpt ∧ t.ntu = s.ntu ∧ t.pins = s.pins ∧
      t.hwi = s.hwi ∧
      (∀ p : PortNo,
        t.ports[p] = { s.ports[p] with
          lpi := if s.ports[p].lpi.counting = true
            then { s.ports[p].lpi with
              holdTimer := s.ports[p].lpi.holdTimer.map (· - 1)
              recoveryTimer := s.ports[p].lpi.recoveryTimer.map (· - 1) }
            else { s.ports[p].lpi with counting := true }
          cmt := { s.ports[p].cmt with
            committedCount := nextCount s.ports[p].cmt.ci s.ports[p].cmt.committedCount
            committedDue := nextDue s.ports[p].cmt.ci s.ports[p].cmt.committedCount s.ports[p].cmt.committedDue
            excessCount := if s.ports[p].cmt.ei = 0 then s.ports[p].cmt.excessCount
              else nextCount s.ports[p].cmt.ei s.ports[p].cmt.excessCount
            excessDue := if s.ports[p].cmt.ei = 0 then s.ports[p].cmt.excessDue
              else nextDue s.ports[p].cmt.ei s.ports[p].cmt.excessCount s.ports[p].cmt.excessDue } }) ∧
      (s.swt.running = false ∨ s.pins.hold = true → t.swt = s.swt) ∧
      (s.swt.running = true → s.pins.hold = false → s.swt.prescalerCount + 1 < s.swt.prescaler →
        t.swt = { s.swt with prescalerCount := s.swt.prescalerCount + 1 }) ∧
      (s.swt.running = true → s.pins.hold = false → s.swt.prescaler ≤ s.swt.prescalerCount + 1 →
        t.swt = { s.swt with
          prescalerCount := 0, counter := nextCount s.swt.modulo s.swt.counter
          ticksDue := nextDue s.swt.modulo s.swt.counter s.swt.ticksDue })

/-- The selections of a frame (R134, R137, R140, R47), made from the tables at its start: the content of each highway slot,
and what each line transmit channel carries. The sample store is that of the frame before (R136), no highway-in sample of
the new frame is aligned yet, no highway frame has begun in it, those begun before are one frame older (R133), no port's
line frame has been carried in it (the model's mark, log 11), and the format in force in the frame is that of its start
(R114, log 25). -/
def Obligations.FrameStartSelects : Prop :=
  ∀ s : State, s.pins.reset = false →
    ∃ t, exec .frameStart s = .next t ∧
      t.psw.lineStore = s.psw.lineRx ∧ t.psw.hwStore = s.psw.hwRx ∧ t.psw.lineRx = s.psw.lineRx ∧
      t.psw.lineTx = s.psw.lineTx ∧ (∀ p : PortNo, t.psw.carried[p] = false) ∧
      (∀ sl : SlotNo, t.psw.hwRx[sl] = none) ∧
      t.psw.begun = none ∧ t.psw.begunBefore = s.psw.begun ∧ t.psw.begunEarlier = s.psw.begunBefore ∧
      (∀ p : PortNo, t.psw.formats[p] = s.ports[p].lpi.format) ∧
      -- highway slots
      (∀ sl : SlotNo,
        (s.lsv.slots[sl].state = .free ∨ s.lsv.slots[sl].state = .quarantine → t.psw.slotSel[sl] = none) ∧
        (∀ l : LeaseNo, s.lsv.slots[sl].state = .held → s.lsv.slots[sl].holder = some l →
          (s.lsv.leases[l].state = .active →
            t.psw.slotSel[sl] = some s.psw.lineRx[s.lsv.leases[l].port][s.lsv.leases[l].channel]) ∧
          (s.lsv.leases[l].state = .conditioned →
            t.psw.slotSel[sl] = some (conditioningCode s s.lsv.leases[l]))) ∧
        (s.lsv.slots[sl].state = .reserved → ¬ TapTarget s.lsv sl → t.psw.slotSel[sl] = none) ∧
        (∀ l : LeaseNo, s.lsv.slots[sl].state = .reserved → TapTarget s.lsv sl → s.lsv.tap.source = some l →
          (s.lsv.leases[l].state = .active ∨ s.lsv.leases[l].state = .waiting →
            t.psw.slotSel[sl] = some s.psw.lineRx[s.lsv.leases[l].port][s.lsv.leases[l].channel]) ∧
          (s.lsv.leases[l].state = .conditioned →
            t.psw.slotSel[sl] = some (conditioningCode s s.lsv.leases[l])))) ∧
      -- line transmit channels
      (∀ (p : PortNo) (c : ChanNo),
        (c = (match s.ports[p].lpi.format with | .f32 => 16 | .f24 => 24) → t.psw.lineSel[p][c] = .signalling) ∧
        (c ≠ (match s.ports[p].lpi.format with | .f32 => 16 | .f24 => 24) →
          (s.lsv.chanMap[p][c] = none → t.psw.lineSel[p][c] = .byte s.hwi.idleCode) ∧
          (∀ (l : LeaseNo) (r : Lease), s.lsv.chanMap[p][c] = some l → r = s.lsv.leases[l] →
            (∀ sl : SlotNo, r.kind = .duplex → r.state = .active → r.slot = some sl →
              t.psw.lineSel[p][c] = .highwayIn sl (conditioningCode s r)) ∧
            (∀ (talker : LeaseNo) (sl : SlotNo) (b : Byte), r.kind = .listen → r.state = .active →
              s.lsv.groups[r.group].talker = some talker → s.lsv.leases[talker].slot = some sl →
              t.psw.slotSel[sl] = some b → t.psw.lineSel[p][c] = .byte b) ∧
            (r.kind = .talk ∨ r.state = .waiting ∨ r.state = .conditioned →
              t.psw.lineSel[p][c] = .byte s.hwi.idleCode))))

namespace Sys2Proof.Spec

/-- The Claim Channel of a port after a frame has sent its signalling byte (R72, R82). -/
def afterSending (s : State) (p : PortNo) : Cch :=
  let x := s.ports[p].cch
  if s.ports[p].lpi.admin = .closed ∨ s.psw.formats[p] ≠ s.ports[p].lpi.format then x
  else
    match x.queue with
    | [] => x
    | _ :: rest => if x.sent = 3 then { x with queue := rest, sent := 0 } else { x with sent := x.sent + 1 }

/-- The bytes of a reply (R74, R86, R186): the start marker, the fields, and the check that brings the sum of the four values
to a multiple of 128. -/
def replyByte (r : Reply) (k : Fin 4) : Byte :=
  let v0 := (code [ReplyKind.grant, .wait, .refuse, .released, .status, .revoked] r.kind + 1) * 16 + r.tag.val
  let v1 := r.second.val * 32 + r.channel.val
  let sum := v0 + v1 + r.third.val
  BitVec.ofNat 8
    (match k with
      | 0 => 128 + v0
      | 1 => v1
      | 2 => r.third.val
      | 3 => if sum % 128 = 0 then 0 else 128 - sum % 128)

/-- The row that names the arrival of byte `b` at a Claim Channel (R75 to R77). -/
def byteRow (p : PortNo) (b : Byte) (a : Assembly) (row : Instr) : Prop :=
  (Marked b ∧ a = .hunt ∧ row = .headerByteInHunt p b) ∨
  (Marked b ∧ a ≠ .hunt ∧ row = .headerByteInGather p b) ∨
  (¬ Marked b ∧ ((∃ b1, a = .gather1 b1) ∨ ∃ b1 b2, a = .gather2 b1 b2) ∧ row = .continuationByteInGather p b) ∨
  (¬ Marked b ∧ (∃ b1 b2 b3, a = .gather3 b1 b2 b3) ∧ row = .messageComplete p b)

end Sys2Proof.Spec

/-- A line frame (R71, R72, R82, R115, R136, R137): each channel sends its selected byte, and a highway-in sample that is
not aligned gives the conditioning code (that a line frame carried before the pulse sends it too for a slot the pulse cuts
is stated by HighwayAlignsAndDrives, for which the frame is marked as carried; log 11); the samples received are stored, and
the fault input takes the level that the alarm pin and the line pulse give, with the effect of FAULT_ASSERTED or
FAULT_CLEARED when it changes; in the frame of a port's first pulse it is asserted (read from R115, log 9). The signalling
channel is that of the format in force in the frame, in both directions; a port opened with another format sends 00h and
assembles nothing until a frame begins (R71, R78, R114; log 25). With `cch` the Claim Channel takes the signalling byte
here, with the effect of the byte's own row; without it the byte comes by that row (log 7). A continuation byte in HUNT is
passed over (R75). A port that is eligible after it makes the serving request (R91). -/
def Obligations.LineFrameCarriesSamples : Prop :=
  ∀ (s : State) (p : PortNo) (rx : Vector Byte 32) (alarm : Bool) (pulse : Option Nat) (cch : Bool) (b : Byte)
    (level : Bool) (position : Option Nat),
    s.pins.reset = false → b = rx[s.psw.formats[p].signalling] →
    level = (alarm || pulse.isNone || decide (pulse ≠ s.ports[p].lpi.expected)) →
    position = (match pulse with | none => s.ports[p].lpi.expected | some x => some x) →
    ∃ t, exec (.lineFrame p rx alarm pulse cch) s = .next t ∧
      t.psw = { s.psw with
        lineRx := upd s.psw.lineRx p rx, lineTx := t.psw.lineTx, carried := upd s.psw.carried p true } ∧
      t.hwi = s.hwi ∧ t.swt = s.swt ∧ t.cpt = s.cpt ∧ t.pins = s.pins ∧
      (∀ q : PortNo, q ≠ p → t.psw.lineTx[q] = s.psw.lineTx[q] ∧ t.ports[q] = s.ports[q]) ∧
      t.ports[p].cmt = s.ports[p].cmt ∧
      (∀ c : ChanNo,
        (∀ x : Byte, s.psw.lineSel[p][c] = .byte x → t.psw.lineTx[p][c] = x) ∧
        (∀ (sl : SlotNo) (code x : Byte), s.psw.lineSel[p][c] = .highwayIn sl code → s.psw.hwStore[sl] = some x →
          t.psw.lineTx[p][c] = x) ∧
        (∀ (sl : SlotNo) (code : Byte), s.psw.lineSel[p][c] = .highwayIn sl code → s.psw.hwStore[sl] = none →
          t.psw.lineTx[p][c] = code) ∧
        (s.psw.lineSel[p][c] = .signalling →
          (¬ Signals s p ∨ s.ports[p].cch.queue = [] → t.psw.lineTx[p][c] = 0x00) ∧
          (∀ (r : Reply) (rest : List Reply), Signals s p → s.ports[p].cch.queue = r :: rest →
            t.psw.lineTx[p][c] = replyByte r s.ports[p].cch.sent))) ∧
      -- the Claim Channel and the serving request
      (cch = false ∨ (¬ Marked b ∧ s.ports[p].cch.assembly = .hunt) → t.ports[p].cch = afterSending s p) ∧
      (∀ (row : Instr) (u : State), cch = true → byteRow p b s.ports[p].cch.assembly row →
        exec row (withCch s p (afterSending s p)) = .next u → t.ports[p].cch = u.ports[p].cch) ∧
      t.cpr = { s.cpr with
        requested := s.cpr.requested ||
          decide (∃ q : PortNo, t.ports[q].cch.bufA.isSome = true ∧ t.ports[q].cch.queue.length ≤ 6) } ∧
      -- the fault input
      t.ports[p].lpi.faultIn = level ∧ t.ports[p].lpi.expected = position ∧
      (s.ports[p].lpi.faultIn = level →
        t.ports[p].lpi = { s.ports[p].lpi with expected := position } ∧ t.lsv = s.lsv ∧ t.ntu = s.ntu) ∧
      (∀ (row : Instr) (u : State),
        (s.ports[p].lpi.faultIn = false ∧ level = true ∧ row = .faultAsserted p) ∨
          (s.ports[p].lpi.faultIn = true ∧ level = false ∧ row = .faultCleared p) →
        exec row (withPort s p { s.ports[p] with lpi := { s.ports[p].lpi with expected := position } }) = .next u →
        t.ports[p].lpi = u.ports[p].lpi ∧ t.lsv = u.lsv ∧ t.ntu = u.ntu)

/-- An outstanding refill (R95, R97; log 4): one token, unless the bucket is full. A refill row that is not due changes
nothing (the model's choice, log 2). -/
def Sys2Proof.Spec.RefillAddsToken : Prop :=
  ∀ (s : State) (p : PortNo) (m : Cmt), s.pins.reset = false → m = s.ports[p].cmt →
    (0 < m.committedDue →
      exec (.committedRefill p) s =
        .next (withPort s p { s.ports[p] with cmt := { m with
          committedDue := m.committedDue - 1
          committed := if m.committed < m.cbs then m.committed + 1 else m.committed } })) ∧
    (0 < m.excessDue →
      exec (.excessRefill p) s =
        .next (withPort s p { s.ports[p] with cmt := { m with
          excessDue := m.excessDue - 1, excess := if m.excess < m.ebs then m.excess + 1 else m.excess } })) ∧
    (m.committedDue = 0 → exec (.committedRefill p) s = .next s) ∧
    (m.excessDue = 0 → exec (.excessRefill p) s = .next s)

/-- The counters of a frame start, and the refills they make due (R95, R116, R118, R144). -/
def Obligations.FramesCountAndRefill : Prop := Spec.FrameStartCounts ∧ Spec.RefillAddsToken

/-- The alignment machine (R130 to R132): each row of the two tables, the realign counter at each entry to ALIGNED, and HWY
at each entry to and exit from it; the tables, ports, Sweep Timer and Command Port stay (R132). Where the HWI is not ALIGNED
after the position no highway frame begins, and nothing of the Payload Switch changes (R135, R136; the slots of a frame begun
before go on at their own times, R133). A position that passes in SEEK is no event, and its row changes nothing (the model's
choice, log 2). -/
def Sys2Proof.Spec.HighwayPulsesAlign : Prop :=
  ∀ (s : State) (at' : BitTime) (hwIn : Vector Byte 256), s.pins.reset = false →
    ∃ t u, exec (.highwayPulse at' hwIn) s = .next t ∧ exec (.pulseMissing hwIn) s = .next u ∧
      (∀ x : State, x = t ∨ x = u →
        x.lsv = s.lsv ∧ x.ports = s.ports ∧ x.swt = s.swt ∧ x.cpt = s.cpt ∧ x.cpr = s.cpr ∧ x.pins = s.pins ∧
        x.psw.lineStore = s.psw.lineStore ∧ x.psw.lineRx = s.psw.lineRx ∧ x.psw.slotSel = s.psw.slotSel ∧
        x.psw.lineSel = s.psw.lineSel ∧ x.psw.carried = s.psw.carried ∧
        (x.hwi.alignment ≠ .aligned → x.psw = s.psw) ∧
        x.hwi.offset = s.hwi.offset ∧ x.hwi.idleCode = s.hwi.idleCode ∧
        x.hwi.realign = (if s.hwi.alignment ≠ .aligned ∧ x.hwi.alignment = .aligned
          then min (s.hwi.realign + 1) 65535 else s.hwi.realign) ∧
        x.ntu = (if (s.hwi.alignment = .aligned) ↔ (x.hwi.alignment = .aligned) then s.ntu else event 2 s.ntu)) ∧
      -- a pulse
      (s.hwi.alignment = .seek →
        t.hwi.alignment = .confirm ∧ t.hwi.expected = some at' ∧ t.hwi.confirmCount = 0) ∧
      (s.hwi.alignment ≠ .seek → s.hwi.expected ≠ some at' →
        t.hwi.alignment = .confirm ∧ t.hwi.expected = some at' ∧ t.hwi.confirmCount = 0 ∧ t.hwi.missCount = 0) ∧
      (s.hwi.alignment = .confirm → s.hwi.expected = some at' →
        t.hwi.expected = s.hwi.expected ∧ t.hwi.confirmCount = s.hwi.confirmCount + 1 ∧
        t.hwi.alignment = (if 2 ≤ s.hwi.confirmCount + 1 then .aligned else .confirm)) ∧
      (s.hwi.alignment = .aligned → s.hwi.expected = some at' →
        t.hwi.alignment = .aligned ∧ t.hwi.expected = s.hwi.expected ∧ t.hwi.missCount = 0) ∧
      -- the expected position passes without one
      (s.hwi.alignment = .seek → u = s) ∧
      (s.hwi.alignment = .confirm →
        u.hwi.alignment = .seek ∧ u.hwi.expected = none ∧ u.hwi.confirmCount = 0) ∧
      (s.hwi.alignment = .aligned → s.hwi.missCount < 3 →
        u.hwi.alignment = .aligned ∧ u.hwi.expected = s.hwi.expected ∧ u.hwi.missCount = s.hwi.missCount + 1) ∧
      (s.hwi.alignment = .aligned → 3 ≤ s.hwi.missCount →
        u.hwi.alignment = .seek ∧ u.hwi.expected = none ∧ u.hwi.missCount = 0)

/-- An aligned highway frame begins (R131 to R133, R135, R136, R141) at an on-time pulse in ALIGNED, at the pulse that
completes the confirmation, and at a freewheeled position: it is placed with the offset in force and drives the content
selected for the frame; highway-in is sampled at each slot's time in the stream from the position on (that the row brings
the stream: log 11); and the slots of the frame before that lie at or after its slot 0 are neither driven nor marked
aligned, and where such a slot is selected for a line channel of a port whose line frame the internal frame has carried
(R129, R138; the mark is the model's, log 11), that channel sends its conditioning code, and every other line channel what
it has sent. -/
def Sys2Proof.Spec.AlignedFrameBegins : Prop :=
  ∀ (s : State) (row : Instr) (start : BitTime) (hwIn : Vector Byte 256), s.pins.reset = false →
    s.hwi.expected = some start →
    (row = .highwayPulse start hwIn ∧
        (s.hwi.alignment = .aligned ∨ (s.hwi.alignment = .confirm ∧ 1 ≤ s.hwi.confirmCount))) ∨
      (row = .pulseMissing hwIn ∧ s.hwi.alignment = .aligned ∧ s.hwi.missCount < 3) →
    ∃ t, exec row s = .next t ∧ t.hwi.alignment = .aligned ∧
      t.psw.begun = some { start := start, offset := s.hwi.offset, content := s.psw.slotSel } ∧
      t.psw.begunEarlier = s.psw.begunEarlier ∧ t.psw.formats = s.psw.formats ∧
      (∀ (sl : SlotNo) (j : Fin 256), j.val = s.hwi.offset.val + sl.val → t.psw.hwRx[sl] = some hwIn[j]) ∧
      (s.psw.begunBefore = none →
        t.psw.begunBefore = none ∧ t.psw.hwStore = s.psw.hwStore ∧ t.psw.lineTx = s.psw.lineTx) ∧
      (∀ f : HighwayFrame, s.psw.begunBefore = some f →
        ∃ g : HighwayFrame, t.psw.begunBefore = some g ∧ g.start = f.start ∧ g.offset = f.offset ∧
          ∀ sl : SlotNo,
            (128 + s.hwi.offset.val ≤ f.offset.val + sl.val → g.content[sl] = none ∧ t.psw.hwStore[sl] = none) ∧
            (f.offset.val + sl.val < 128 + s.hwi.offset.val →
              g.content[sl] = f.content[sl] ∧ t.psw.hwStore[sl] = s.psw.hwStore[sl])) ∧
      (∀ (f : HighwayFrame) (p : PortNo) (c : ChanNo), s.psw.begunBefore = some f →
        (∀ (sl : SlotNo) (code : Byte), s.psw.carried[p] = true → s.psw.lineSel[p][c] = .highwayIn sl code →
          128 + s.hwi.offset.val ≤ f.offset.val + sl.val → t.psw.lineTx[p][c] = code) ∧
        (s.psw.carried[p] = false ∨
            (∀ (sl : SlotNo) (code : Byte), s.psw.lineSel[p][c] = .highwayIn sl code →
              f.offset.val + sl.val < 128 + s.hwi.offset.val) →
          t.psw.lineTx[p][c] = s.psw.lineTx[p][c]))

namespace Sys2Proof.Spec

/-- The aligned highway frame begun `age` internal frames ago. -/
def frameAt (s : State) (age : Nat) : Option HighwayFrame :=
  match age with
  | 0 => s.psw.begun
  | 1 => s.psw.begunBefore
  | 2 => s.psw.begunEarlier
  | _ => none

/-- Slot `sl` of highway frame `f`, begun `age` internal frames ago, stands at bit time `b` of the present one (R133): slot
time offset + `sl`, of 8 bit times, counted from the pulse that began the frame. -/
def Stands (f : HighwayFrame) (age : Nat) (sl : SlotNo) (b : BitTime) : Prop :=
  ∃ i : Fin 8, age * 1024 + b.val = f.start.val + 8 * (f.offset.val + sl.val) + i.val

end Sys2Proof.Spec

/-- Highway-out (R133, R135): at each bit time it carries the content of the slot of a frame begun that stands there, the
youngest frame that has content there, and is floated elsewhere and while RESET is asserted. -/
def Sys2Proof.Spec.HighwayOutPlaced : Prop :=
  ∀ (s : State) (b : BitTime),
    (s.pins.reset = true → s.highwayOut b = none) ∧
    (∀ x : Byte, s.highwayOut b = some x →
      ∃ (age : Nat) (f : HighwayFrame) (sl : SlotNo), frameAt s age = some f ∧ Stands f age sl b ∧ f.content[sl] = some x) ∧
    (∀ (age : Nat) (f : HighwayFrame) (sl : SlotNo) (x : Byte), s.pins.reset = false → frameAt s age = some f →
      Stands f age sl b → f.content[sl] = some x →
      (∀ (age' : Nat) (f' : HighwayFrame) (sl' : SlotNo), age' < age → frameAt s age' = some f' → Stands f' age' sl' b →
        f'.content[sl'] = none) →
      s.highwayOut b = some x)

/-- The alignment machine, the start of an aligned highway frame, and highway-out by bit time (R130 to R136, R141). -/
def Obligations.HighwayAlignsAndDrives : Prop :=
  Spec.HighwayPulsesAlign ∧ Spec.AlignedFrameBegins ∧ Spec.HighwayOutPlaced

/-! ### Faults and recovery -/

namespace Sys2Proof.Spec

/-- The state with the Line Port Interface of port `p` replaced. -/
def withLpi (s : State) (p : PortNo) (l : Lpi) : State := withPort s p { s.ports[p] with lpi := l }

/-- A record with a notice kind added by the notice rule of R8. -/
def noticed (v : Lsv) (k : Notice) (r : Lease) : Lease :=
  if r.origin = .host ∨ v.groups[r.group].mask.getLsbD k.bit = true
  then { r with notices := r.notices ||| (1#7 <<< k.bit) } else r

/-- The leases of port `p` that are live, in ascending order. -/
def onPort (v : Lsv) (p : PortNo) : List LeaseNo := liveLeases v fun r => r.port == p

/-- The attention list after a notice kind has been added to the leases `ls` in order: those whose set was empty and becomes
non-empty join the tail (R158). -/
def joined (v : Lsv) (k : Notice) (ls : List LeaseNo) : List LeaseNo :=
  v.attention ++ ls.filter fun l => v.leases[l].notices == 0 && (noticed v k v.leases[l]).notices != 0

/-- The tables after a recovery of port `p` (R120): its live leases leave CONDITIONED with RESTORED. -/
def Restored (v w : Lsv) (p : PortNo) : Prop :=
  (∀ l : LeaseNo,
    w.leases[l] =
      if Live v.leases[l] ∧ v.leases[l].port = p then
        noticed v .restored { v.leases[l] with
          state := if v.leases[l].kind = .listen ∧ v.groups[v.leases[l].group].talker = none then .waiting else .active }
      else v.leases[l]) ∧
    w = { v with leases := w.leases, attention := joined v .restored (onPort v p) }

end Sys2Proof.Spec

/-- A change of the fault input of an open port by the state of its condition (R115, R116, R118 to R120), and none on a CLOSED
port (R111, R115): the level is taken, and the condition moves as the rules give. An event row with the level as it stands
changes nothing (log 2), and neither does a clearing while the port has no expected pulse position, since the input is then
asserted. -/
def Obligations.FaultEventsMoveCondition : Prop :=
  ∀ (s : State) (p : PortNo) (x : Lpi), s.pins.reset = false → x = s.ports[p].lpi →
    (x.faultIn = true → exec (.faultAsserted p) s = .next s) ∧
    (x.faultIn = false → exec (.faultCleared p) s = .next s) ∧
    (x.expected = none → exec (.faultCleared p) s = .next s) ∧
    (x.faultIn = false →
      (x.admin = .closed → exec (.faultAsserted p) s = .next (withLpi s p { x with faultIn := true })) ∧
      (x.admin ≠ .closed →
        (x.condition = .normal →
          exec (.faultAsserted p) s =
            .next (withLpi s p { x with
              faultIn := true, condition := .pending, holdTimer := some (8 * x.faultHold), counting := false })) ∧
        (x.condition = .recovering →
          exec (.faultAsserted p) s =
            .next (withLpi s p { x with faultIn := true, condition := .faulted, recoveryTimer := none })) ∧
        (x.condition = .pending ∨ x.condition = .faulted →
          exec (.faultAsserted p) s = .next (withLpi s p { x with faultIn := true })))) ∧
    (x.faultIn = true → x.expected ≠ none →
      (x.admin = .closed → exec (.faultCleared p) s = .next (withLpi s p { x with faultIn := false })) ∧
      (x.admin ≠ .closed →
        (x.condition = .pending →
          exec (.faultCleared p) s =
            .next (withLpi s p { x with faultIn := false, condition := .normal, holdTimer := none })) ∧
        (x.condition = .faulted → x.recoveryTime ≠ 0 →
          exec (.faultCleared p) s =
            .next (withLpi s p { x with
              faultIn := false, condition := .recovering, recoveryTimer := some (8 * x.recoveryTime)
              counting := false })) ∧
        (x.condition = .faulted → x.recoveryTime = 0 →
          ∃ w : Lsv, Restored s.lsv w p ∧
            exec (.faultCleared p) s =
              .next { withLpi s p { x with
                  faultIn := false, condition := .normal, recoveryTimer := none, countdown := 0, lost := false } with
                lsv := w, ntu := event 3 s.ntu }) ∧
        (x.condition = .normal ∨ x.condition = .recovering →
          exec (.faultCleared p) s = .next (withLpi s p { x with faultIn := false }))))

/-- The hold expiry of a PENDING port (R117) and the recovery expiry of a RECOVERING port (R120), each when its timer has
run out: the leases in ascending order with their notices, the emptied Claim Channel, the countdown, LOST and LINK. That a
timer that has run out holds 0 until its row takes it is the model's choice (log 4), and so is that an expiry row whose
timer has not run out changes nothing (log 2). -/
def Obligations.ExpiriesConditionAndRestore : Prop :=
  ∀ (s : State) (p : PortNo) (x : Port), s.pins.reset = false → x = s.ports[p] →
    (x.lpi.condition = .pending → x.lpi.holdTimer = some 0 →
      ∃ w : Lsv,
        (∀ l : LeaseNo,
          w.leases[l] =
            if Live s.lsv.leases[l] ∧ s.lsv.leases[l].port = p
            then noticed s.lsv .conditioned { s.lsv.leases[l] with state := .conditioned } else s.lsv.leases[l]) ∧
        w = { s.lsv with leases := w.leases, attention := joined s.lsv .conditioned (onPort s.lsv p) } ∧
        exec (.holdExpiry p) s =
          .next { withPort s p { x with
              lpi := { x.lpi with condition := .faulted, holdTimer := none, countdown := x.lpi.releaseTimeout }
              cch := { x.cch with assembly := .hunt, bufA := none, bufB := none, queue := [], sent := 0 } } with
            lsv := w, ntu := event 3 s.ntu }) ∧
    (x.lpi.condition = .recovering → x.lpi.recoveryTimer = some 0 →
      ∃ w : Lsv, Restored s.lsv w p ∧
        exec (.recoveryExpiry p) s =
          .next { withPort s p { x with
              lpi := { x.lpi with condition := .normal, recoveryTimer := none, countdown := 0, lost := false } } with
            lsv := w, ntu := event 3 s.ntu }) ∧
    (x.lpi.holdTimer ≠ some 0 → exec (.holdExpiry p) s = .next s) ∧
    (x.lpi.recoveryTimer ≠ some 0 → exec (.recoveryExpiry p) s = .next s)

/-! ### The sweep -/

namespace Sys2Proof.Spec

/-- A port at a sweep tick (R121). -/
def ticked (x : Lpi) : Lpi :=
  if (x.condition = .faulted ∨ x.condition = .recovering) ∧ 0 < x.countdown then
    { x with countdown := x.countdown - 1, lost := if x.countdown = 1 then true else x.lost }
  else x

/-- The state after a tick that leaves the Sweep Timer `w` and the Notice Unit `n`. -/
def afterTick (s : State) (w : Swt) (n : Ntu) : State :=
  { s with ports := tab 4 fun p => { s.ports[p] with lpi := ticked s.ports[p].lpi }, swt := w, ntu := n }

/-- The tables after the quarantine phase (R34): the guards of the list fall by one, and the slots that reach 0 become FREE
and join the free-list tail in their order. -/
def phased (v : Lsv) : Lsv :=
  { v with
    slots := tab 128 fun sl =>
      if sl ∈ v.quarantine then
        if v.slots[sl].guard = some 1 then { state := .free, home := none, holder := none, guard := none }
        else { v.slots[sl] with guard := v.slots[sl].guard.map (· - 1) }
      else v.slots[sl]
    freeList := v.freeList ++ v.quarantine.filter fun sl => v.slots[sl].guard == some 1
    quarantine := v.quarantine.filter fun sl => v.slots[sl].guard != some 1 }

/-- A visit to record `l` leaves the state `t`, before the sweep moves on (R148, R149, R122). -/
def Visited (s t : State) (l : LeaseNo) : Prop :=
  let r := s.lsv.leases[l]
  let limit := s.lsv.groups[r.group].expiryLimit
  (¬ Live r ∨ r.origin = .host ∨ r.pinned = true → t = s) ∧
  (r.state = .conditioned → r.origin = .signaled → r.pinned = false →
    (s.ports[r.port].lpi.lost = false → t = s) ∧
    (s.ports[r.port].lpi.lost = true →
      t = s.afterTables none (s.lsv.retire s.cpt.walker.scope .linkLost false l))) ∧
  (r.state = .active ∨ r.state = .waiting → r.origin = .signaled → r.pinned = false →
    (limit = 0 → t = s) ∧
    (0 < limit → r.idle + 1 < limit → t = withLease s l { r with idle := r.idle + 1 }) ∧
    (0 < limit → limit ≤ r.idle + 1 →
      t = s.afterTables none
        ((withLease s l { r with idle := r.idle + 1 }).lsv.retire s.cpt.walker.scope .expired false l)))

/-- The sweep after its visit to record `l` (R146, R147). -/
def afterVisit (w : Swt) (l : LeaseNo) (x : Swt) : Prop :=
  (∀ n : LeaseNo, n.val = l.val + 1 → x = { w with sweep := .lphase n, request := true }) ∧
  (l.val = 127 → w.pendingTick = true → x = { w with sweep := .qphase, pendingTick := false, request := true }) ∧
  (l.val = 127 → w.pendingTick = false → x = { w with sweep := .idle, request := false })

end Sys2Proof.Spec

/-- A sweep tick (R145, R121, R155): the countdowns of all ports, and on the sweep side a sweep begins, the tick waits, or it
is lost and counted with SWEEP set. LOST names the same tick where it makes a port LOST (log 3). A tick is outstanding in
`ticksDue` (log 4). While HOLD is asserted no tick is taken (R145, R152), and without an outstanding tick the rows change
nothing, nor does LOST for a port that the tick does not make LOST (the model's choices, log 2). -/
def Obligations.SweepTickActs : Prop :=
  (∀ (s : State) (p : PortNo), s.pins.hold = true ∨ s.swt.ticksDue = 0 →
    exec .sweepTick s = .next s ∧ exec (.lost p) s = .next s) ∧
  (∀ (s : State) (p : PortNo),
    s.ports[p].lpi.condition = .normal ∨ s.ports[p].lpi.condition = .pending ∨ s.ports[p].lpi.countdown ≠ 1 →
    exec (.lost p) s = .next s) ∧
  ∀ (s t : State), s.pins.reset = false → s.pins.hold = false → 0 < s.swt.ticksDue →
    ((s.swt.sweep = .idle ∧
        t = afterTick s { s.swt with sweep := .qphase, request := true, ticksDue := s.swt.ticksDue - 1 } s.ntu) ∨
      (s.swt.sweep ≠ .idle ∧ s.swt.pendingTick = false ∧
        t = afterTick s { s.swt with pendingTick := true, ticksDue := s.swt.ticksDue - 1 } s.ntu) ∨
      (s.swt.sweep ≠ .idle ∧ s.swt.pendingTick = true ∧
        t = afterTick s { s.swt with overrun := min (s.swt.overrun + 1) 65535, ticksDue := s.swt.ticksDue - 1 }
          (event 5 s.ntu))) →
    exec .sweepTick s = .next t ∧
    (∀ p : PortNo, s.ports[p].lpi.countdown = 1 →
      s.ports[p].lpi.condition = .faulted ∨ s.ports[p].lpi.condition = .recovering →
      exec (.lost p) s = .next t ∧ t.ports[p].lpi.lost = true ∧ t.ports[p].lpi.countdown = 0)

/-- The quarantine phase (R34, R146): taken whole while HOLD is not asserted, after which the sweep stands at lease 0; taken
under HOLD it lapses (R152). It is taken while the timer is STOPPED too (R147 against R34; the model's choice, log 22).
GUARD_EXPIRY names the phase at which a slot's guard reaches 0 (log 3). Guards of QUARANTINE
slots are 1 or more (R33). -/
def Obligations.QuarantinePhaseFreesSlots : Prop :=
  ∀ s : State, s.pins.reset = false → s.swt.sweep = .qphase → s.swt.request = true →
    (∀ sl ∈ s.lsv.quarantine, ∃ n, s.lsv.slots[sl].guard = some n ∧ 1 ≤ n) →
    (s.pins.hold = false →
      exec .quarantinePhase s =
        .next { withTables s (phased s.lsv) with swt := { s.swt with sweep := .lphase 0, request := true } }) ∧
    (s.pins.hold = true →
      exec .quarantinePhase s = .next { s with swt := { s.swt with request := false } }) ∧
    (∀ sl : SlotNo, s.pins.hold = false → sl ∈ s.lsv.quarantine → s.lsv.slots[sl].guard = some 1 →
      exec (.guardExpiry sl) s =
        .next { withTables s (phased s.lsv) with swt := { s.swt with sweep := .lphase 0, request := true } })

/-- A sweep visit (R146 to R149, R122): the record is passed over, aged, or retired EXPIRED or LINK_LOST, and the sweep moves
to the next record or ends, taking up a pending tick; under HOLD the visit lapses (R152). LEASE_EXPIRY names the visit that
expires the lease (log 3). -/
def Obligations.SweepVisitAgesLease : Prop :=
  ∀ (s : State) (l : LeaseNo), s.pins.reset = false → s.swt.sweep = .lphase l → s.swt.request = true →
    (s.pins.hold = true → exec .sweepVisit s = .next { s with swt := { s.swt with request := false } }) ∧
    (∀ (t : State) (w : Swt), s.pins.hold = false → Visited s t l → afterVisit s.swt l w →
      exec .sweepVisit s = .next { t with swt := w } ∧
      (Live s.lsv.leases[l] → s.lsv.leases[l].state ≠ .conditioned → s.lsv.leases[l].origin = .signaled →
        s.lsv.leases[l].pinned = false → 0 < s.lsv.groups[s.lsv.leases[l].group].expiryLimit →
        s.lsv.groups[s.lsv.leases[l].group].expiryLimit ≤ s.lsv.leases[l].idle + 1 →
        exec .leaseExpiry s = .next { t with swt := w }))

/-! ### Pins and reset -/

/-- The RESET and HOLD pins (R152, R183). RESET sets every block at its reset values and empties nothing of the sample store
(log 15); while it is asserted no host command, no table operation and no event changes anything, ISTAT reads 0000h, no mark
is set and no counter counts, samples are stored and the selections of the reset tables sent (R136, R143; log 15; the mark
that a line frame has been carried: log 11), 00h on the signalling channel and the idle code elsewhere; and its release lets
the part run from the reset values. HOLD stops the sweep, and its release submits the next step again. The word on the data
lines is the model's (log 14). -/
def Obligations.ResetAndHoldPins : Prop :=
  ∀ s : State,
    exec .resetAsserted s =
      .next { State.reset with
        psw := { Psw.initial with
          lineStore := s.psw.lineStore, hwStore := s.psw.hwStore, lineRx := s.psw.lineRx, hwRx := s.psw.hwRx }
        pins := { reset := true, hold := s.pins.hold }, pending := s.pending } ∧
    exec .resetReleased s = .next { s with pins := { s.pins with reset := false } } ∧
    exec .holdAsserted s = .next { s with pins := { s.pins with hold := true } } ∧
    (s.swt.sweep = .idle → exec .holdReleased s = .next { s with pins := { s.pins with hold := false } }) ∧
    (s.swt.sweep ≠ .idle →
      exec .holdReleased s =
        .next { s with pins := { s.pins with hold := false }, swt := { s.swt with request := true } }) ∧
    (s.pins.reset = true →
      (∀ (c : HostCmd) (ph : Phase), exec (hostRow c ph) s = .next s) ∧
      exec .istatRead s = .next { s with cpt := { s.cpt with dataOut := 0 } } ∧
      (∃ w : Psw, exec .frameStart s = .next { s with psw := w } ∧ w.lineStore = s.psw.lineRx ∧ w.hwStore = s.psw.hwRx ∧
        w.lineRx = s.psw.lineRx ∧ w.lineTx = s.psw.lineTx ∧
        ∀ (p : PortNo) (c : ChanNo), s.lsv.chanMap[p][c] = none →
          w.lineSel[p][c] =
            if c = (match s.ports[p].lpi.format with | .f32 => 16 | .f24 => 24) then .signalling
            else .byte s.hwi.idleCode) ∧
      (∀ (p : PortNo) (rx : Vector Byte 32) (alarm : Bool) (pulse : Option Nat) (cch : Bool),
        s.ports[p].lpi.admin = .closed →
        ∃ tx : Vector Byte 32,
          exec (.lineFrame p rx alarm pulse cch) s =
            .next { s with psw := { s.psw with
              lineRx := upd s.psw.lineRx p rx, lineTx := upd s.psw.lineTx p tx, carried := upd s.psw.carried p true } } ∧
          ∀ c : ChanNo,
            (s.psw.lineSel[p][c] = .signalling → tx[c] = 0x00) ∧ (∀ x : Byte, s.psw.lineSel[p][c] = .byte x → tx[c] = x)) ∧
      (∀ (p : PortNo) (sl : SlotNo) (at' : BitTime) (hwIn : Vector Byte 256),
        exec .serving s = .next s ∧ exec .walkVisit s = .next s ∧ exec .walkEnding s = .next s ∧
        exec .sweepTick s = .next s ∧
        exec (.lost p) s = .next s ∧ exec .quarantinePhase s = .next s ∧ exec (.guardExpiry sl) s = .next s ∧
        exec .sweepVisit s = .next s ∧ exec .leaseExpiry s = .next s ∧ exec (.faultAsserted p) s = .next s ∧
        exec (.faultCleared p) s = .next s ∧ exec (.holdExpiry p) s = .next s ∧ exec (.recoveryExpiry p) s = .next s ∧
        exec (.committedRefill p) s = .next s ∧ exec (.excessRefill p) s = .next s ∧ exec (.replySent p) s = .next s ∧
        exec (.highwayPulse at' hwIn) s = .next s ∧ exec (.pulseMissing hwIn) s = .next s) ∧
      (∀ (w : Word) (n : Fin 16),
        exec (.registerWrite n w) s = .next s ∧ exec (.istatWrite w) s = .next s ∧ exec (.ienWrite w) s = .next s ∧
        exec (.unknownCommand w) s = .next s ∧ exec (.collision w) s = .next s))

/-- The reset values that the spec gives (R29, R51, R70, R90, R110, R128, R143, R156, R168, R183), as State.reset has them. -/
def Sys2Proof.Spec.ResetValues : Prop :=
  (∀ l : LeaseNo, State.reset.lsv.leases[l] =
    { state := .free, kind := .duplex, origin := .signaled, port := 0, channel := 0, group := 0, cls := 0, slot := none,
      pinned := false, code := none, idle := 0, tag := none, notices := 0, cause := none }) ∧
  (∀ (p : PortNo) (c : ChanNo), State.reset.lsv.chanMap[p][c] = none) ∧
  (∀ sl : SlotNo, State.reset.lsv.slots[sl] = { state := .free, home := none, holder := none, guard := none }) ∧
  State.reset.lsv.freeList = List.finRange 128 ∧ State.reset.lsv.quarantine = [] ∧
  State.reset.lsv.guardSetting = 1 ∧ State.reset.lsv.floors = #v[16, 8, 4, 0] ∧
  State.reset.lsv.tap = { state := .off, source := none, target := none, endReason := some .reset } ∧
  State.reset.lsv.attention = [] ∧
  (∀ g : GroupNo, State.reset.lsv.groups[g] =
    { enabled := g == 0, members := if g = 0 then 15 else 0, admitNonMember := false, expiryLimit := 6, listenerCap := 8,
      mask := 7, talker := none, listeners := [] }) ∧
  (∀ p : PortNo,
    State.reset.ports[p].lpi.admin = .closed ∧ State.reset.ports[p].lpi.format = .f32 ∧
    State.reset.ports[p].lpi.condition = .normal ∧ State.reset.ports[p].lpi.code = 0xFF ∧
    State.reset.ports[p].lpi.faultHold = 10 ∧ State.reset.ports[p].lpi.recoveryTime = 100 ∧
    State.reset.ports[p].lpi.releaseTimeout = 3 ∧ State.reset.ports[p].lpi.holdTimer = none ∧
    State.reset.ports[p].lpi.recoveryTimer = none ∧ State.reset.ports[p].lpi.countdown = 0 ∧
    State.reset.ports[p].lpi.lost = false ∧ State.reset.ports[p].lpi.expected = none ∧
    State.reset.ports[p].cch.assembly = .hunt ∧ State.reset.ports[p].cch.bufA = none ∧
    State.reset.ports[p].cch.bufB = none ∧ State.reset.ports[p].cch.queue = [] ∧
    State.reset.ports[p].cch.counters =
      { checkErr := 0, fragment := 0, overrun := 0, refused := 0, rate := 0, tableFull := 0, replyLost := 0 } ∧
    State.reset.ports[p].cmt.ci = 800 ∧ State.reset.ports[p].cmt.cbs = 4 ∧ State.reset.ports[p].cmt.ei = 0 ∧
    State.reset.ports[p].cmt.ebs = 0 ∧ State.reset.ports[p].cmt.margin = 8 ∧ State.reset.ports[p].cmt.committed = 4 ∧
    State.reset.ports[p].cmt.excess = 0 ∧ State.reset.ports[p].cmt.committedCount = 0 ∧
    State.reset.ports[p].cmt.excessCount = 0) ∧
  State.reset.cpr = { pointer := 3, requested := false } ∧
  (State.reset.swt.running = false ∧ State.reset.swt.prescaler = 128 ∧ State.reset.swt.modulo = 625 ∧
    State.reset.swt.prescalerCount = 0 ∧ State.reset.swt.counter = 0 ∧ State.reset.swt.pendingTick = false ∧
    State.reset.swt.sweep = .idle ∧ State.reset.swt.request = false ∧ State.reset.swt.overrun = 0) ∧
  (State.reset.hwi.alignment = .seek ∧ State.reset.hwi.expected = none ∧ State.reset.hwi.confirmCount = 0 ∧
    State.reset.hwi.missCount = 0 ∧ State.reset.hwi.offset = 0 ∧ State.reset.hwi.idleCode = 0x7F ∧
    State.reset.hwi.realign = 0) ∧
  (∀ b : BitTime, State.reset.highwayOut b = none) ∧
  (∀ (p : PortNo) (c : ChanNo), State.reset.psw.lineTx[p][c] = if c = 16 then 0x00 else 0x7F) ∧
  (State.reset.cpt.args = #v[0, 0, 0, 0] ∧ State.reset.cpt.latched = #v[0, 0, 0, 0] ∧
    State.reset.cpt.res = #v[0, 0, 0, 0] ∧ State.reset.cpt.inProgress = none ∧ State.reset.cpt.collide = false ∧
    State.reset.cpt.last = .ok ∧ State.reset.cpt.walker.scope = none ∧ State.reset.cpt.walker.position = 0 ∧
    State.reset.cpt.walker.count = 0 ∧ State.reset.cpt.walker.abort = false) ∧
  State.reset.ntu = { status := 0, marks := 0, ien := 0, first := none, latest := none } ∧ State.reset.pending = []

/-! ### Invariants -/

/-- Every property of Sys2Proof/Safety.lean holds right after reset. -/
def Sys2Proof.Spec.InvariantsHoldAtReset : Prop :=
  State.reset.Bounded ∧ State.reset.lsv.Grouped ∧ State.reset.lsv.Follows ∧ State.reset.lsv.Attended ∧
    State.reset.lsv.Mapped ∧ State.reset.Conditioned ∧ State.reset.lsv.Slotted ∧ State.reset.Shut ∧ State.reset.Placed

/-- The state right after reset: the values the spec gives, and the invariants. -/
def Obligations.ResetState : Prop := Spec.ResetValues ∧ Spec.InvariantsHoldAtReset

/-- Every step keeps the capacities of the queues, buffers, counters and buckets (R79, R81, R89, R97, R132, R155). -/
def Obligations.CapacitiesKept : Prop := ∀ s t : State, s.Bounded → step s = .next t → t.Bounded

/-- Every step keeps a port that does not answer empty: assembly in HUNT, no message and no reply (R72, R78, R80, R85); and a
port whose format is not yet the one in force has no message and no reply in progress, so that its signalling channel never
moves in the middle of one (R71, R114; when the format comes into force is read by log 25). -/
def Obligations.ShutPortsStayEmpty : Prop := ∀ s t : State, s.Shut → step s = .next t → t.Shut

/-- Every step keeps each group's talker and listener list those of its live leases (R55, R60), in the states in which the
channel map names live leases (MapNamesLiveLeases). -/
def Obligations.GroupsHoldTheirLeases : Prop :=
  ∀ s t : State, s.lsv.Grouped → s.lsv.Mapped → step s = .next t → t.lsv.Grouped

/-- Every step keeps the channel map exact and FREE records cleared (R2, R12), in the states in which groups hold their
leases (GroupsHoldTheirLeases). -/
def Obligations.MapNamesLiveLeases : Prop :=
  ∀ s t : State, s.lsv.Grouped → s.lsv.Mapped → step s = .next t → t.lsv.Mapped

/-- Every step keeps a listener ACTIVE with a talker and WAITING without (R61), in the states of the two statements above. -/
def Obligations.ListenersFollowPresence : Prop :=
  ∀ s t : State, s.lsv.Grouped → s.lsv.Mapped → s.lsv.Follows → step s = .next t → t.lsv.Follows

/-- Every step keeps the attention list exact (R158), in the states of the statements above. -/
def Obligations.AttentionListExact : Prop :=
  ∀ s t : State, s.lsv.Grouped → s.lsv.Mapped → s.lsv.Attended → step s = .next t → t.lsv.Attended

/-- Every step keeps a live lease CONDITIONED exactly while its port is FAULTED or RECOVERING (R117). -/
def Obligations.ConditionedWithPort : Prop := ∀ s t : State, s.Conditioned → step s = .next t → t.Conditioned

/-- Every step keeps the free list, the quarantine list, the holders, the leases' slots, and the tap's source and target exact
(R4, R30 to R33, R46). -/
def Obligations.SlotsAndListsExact : Prop := ∀ s t : State, s.lsv.Slotted → step s = .next t → t.lsv.Slotted

/-- Every step keeps live leases on bearer channels of ports that are not CLOSED (R13), in the states in which ports that do
not answer hold no message (ShutPortsStayEmpty). -/
def Obligations.LeasesStayOnBearerChannels : Prop :=
  ∀ s t : State, s.Shut → s.Placed → step s = .next t → t.Placed
end

