-- ==== Sys2Proof/Laws/State.lean ====
section
/-! SUPPORT. One lemma per field per update of the state, true by rfl. -/

namespace Sys2Proof.Machine

/-! ### setPort -/

@[simp] theorem State.setPort_lsv (s : State) (p : PortNo) (x : Port) : (s.setPort p x).lsv = s.lsv := rfl

@[simp] theorem State.setPort_ports (s : State) (p : PortNo) (x : Port) : (s.setPort p x).ports = upd s.ports p x := rfl

@[simp] theorem State.setPort_cpr (s : State) (p : PortNo) (x : Port) : (s.setPort p x).cpr = s.cpr := rfl

@[simp] theorem State.setPort_swt (s : State) (p : PortNo) (x : Port) : (s.setPort p x).swt = s.swt := rfl

@[simp] theorem State.setPort_hwi (s : State) (p : PortNo) (x : Port) : (s.setPort p x).hwi = s.hwi := rfl

@[simp] theorem State.setPort_psw (s : State) (p : PortNo) (x : Port) : (s.setPort p x).psw = s.psw := rfl

@[simp] theorem State.setPort_cpt (s : State) (p : PortNo) (x : Port) : (s.setPort p x).cpt = s.cpt := rfl

@[simp] theorem State.setPort_ntu (s : State) (p : PortNo) (x : Port) : (s.setPort p x).ntu = s.ntu := rfl

@[simp] theorem State.setPort_pins (s : State) (p : PortNo) (x : Port) : (s.setPort p x).pins = s.pins := rfl

@[simp] theorem State.setPort_pending (s : State) (p : PortNo) (x : Port) : (s.setPort p x).pending = s.pending := rfl

/-! ### setCch -/

@[simp] theorem State.setCch_lsv (s : State) (p : PortNo) (c : Cch) : (s.setCch p c).lsv = s.lsv := rfl

@[simp] theorem State.setCch_ports (s : State) (p : PortNo) (c : Cch) : (s.setCch p c).ports = upd s.ports p { s.ports[p] with cch := c } := rfl

@[simp] theorem State.setCch_cpr (s : State) (p : PortNo) (c : Cch) : (s.setCch p c).cpr = s.cpr := rfl

@[simp] theorem State.setCch_swt (s : State) (p : PortNo) (c : Cch) : (s.setCch p c).swt = s.swt := rfl

@[simp] theorem State.setCch_hwi (s : State) (p : PortNo) (c : Cch) : (s.setCch p c).hwi = s.hwi := rfl

@[simp] theorem State.setCch_psw (s : State) (p : PortNo) (c : Cch) : (s.setCch p c).psw = s.psw := rfl

@[simp] theorem State.setCch_cpt (s : State) (p : PortNo) (c : Cch) : (s.setCch p c).cpt = s.cpt := rfl

@[simp] theorem State.setCch_ntu (s : State) (p : PortNo) (c : Cch) : (s.setCch p c).ntu = s.ntu := rfl

@[simp] theorem State.setCch_pins (s : State) (p : PortNo) (c : Cch) : (s.setCch p c).pins = s.pins := rfl

@[simp] theorem State.setCch_pending (s : State) (p : PortNo) (c : Cch) : (s.setCch p c).pending = s.pending := rfl

/-! ### setCmt -/

@[simp] theorem State.setCmt_lsv (s : State) (p : PortNo) (m : Cmt) : (s.setCmt p m).lsv = s.lsv := rfl

@[simp] theorem State.setCmt_ports (s : State) (p : PortNo) (m : Cmt) : (s.setCmt p m).ports = upd s.ports p { s.ports[p] with cmt := m } := rfl

@[simp] theorem State.setCmt_cpr (s : State) (p : PortNo) (m : Cmt) : (s.setCmt p m).cpr = s.cpr := rfl

@[simp] theorem State.setCmt_swt (s : State) (p : PortNo) (m : Cmt) : (s.setCmt p m).swt = s.swt := rfl

@[simp] theorem State.setCmt_hwi (s : State) (p : PortNo) (m : Cmt) : (s.setCmt p m).hwi = s.hwi := rfl

@[simp] theorem State.setCmt_psw (s : State) (p : PortNo) (m : Cmt) : (s.setCmt p m).psw = s.psw := rfl

@[simp] theorem State.setCmt_cpt (s : State) (p : PortNo) (m : Cmt) : (s.setCmt p m).cpt = s.cpt := rfl

@[simp] theorem State.setCmt_ntu (s : State) (p : PortNo) (m : Cmt) : (s.setCmt p m).ntu = s.ntu := rfl

@[simp] theorem State.setCmt_pins (s : State) (p : PortNo) (m : Cmt) : (s.setCmt p m).pins = s.pins := rfl

@[simp] theorem State.setCmt_pending (s : State) (p : PortNo) (m : Cmt) : (s.setCmt p m).pending = s.pending := rfl

/-! ### setLpi -/

@[simp] theorem State.setLpi_lsv (s : State) (p : PortNo) (l : Lpi) : (s.setLpi p l).lsv = s.lsv := rfl

@[simp] theorem State.setLpi_ports (s : State) (p : PortNo) (l : Lpi) : (s.setLpi p l).ports = upd s.ports p { s.ports[p] with lpi := l } := rfl

@[simp] theorem State.setLpi_cpr (s : State) (p : PortNo) (l : Lpi) : (s.setLpi p l).cpr = s.cpr := rfl

@[simp] theorem State.setLpi_swt (s : State) (p : PortNo) (l : Lpi) : (s.setLpi p l).swt = s.swt := rfl

@[simp] theorem State.setLpi_hwi (s : State) (p : PortNo) (l : Lpi) : (s.setLpi p l).hwi = s.hwi := rfl

@[simp] theorem State.setLpi_psw (s : State) (p : PortNo) (l : Lpi) : (s.setLpi p l).psw = s.psw := rfl

@[simp] theorem State.setLpi_cpt (s : State) (p : PortNo) (l : Lpi) : (s.setLpi p l).cpt = s.cpt := rfl

@[simp] theorem State.setLpi_ntu (s : State) (p : PortNo) (l : Lpi) : (s.setLpi p l).ntu = s.ntu := rfl

@[simp] theorem State.setLpi_pins (s : State) (p : PortNo) (l : Lpi) : (s.setLpi p l).pins = s.pins := rfl

@[simp] theorem State.setLpi_pending (s : State) (p : PortNo) (l : Lpi) : (s.setLpi p l).pending = s.pending := rfl

/-! ### raise -/

@[simp] theorem State.raise_lsv (s : State) (b : StatusBit) : (s.raise b).lsv = s.lsv := rfl

@[simp] theorem State.raise_ports (s : State) (b : StatusBit) : (s.raise b).ports = s.ports := rfl

@[simp] theorem State.raise_cpr (s : State) (b : StatusBit) : (s.raise b).cpr = s.cpr := rfl

@[simp] theorem State.raise_swt (s : State) (b : StatusBit) : (s.raise b).swt = s.swt := rfl

@[simp] theorem State.raise_hwi (s : State) (b : StatusBit) : (s.raise b).hwi = s.hwi := rfl

@[simp] theorem State.raise_psw (s : State) (b : StatusBit) : (s.raise b).psw = s.psw := rfl

@[simp] theorem State.raise_cpt (s : State) (b : StatusBit) : (s.raise b).cpt = s.cpt := rfl

@[simp] theorem State.raise_ntu (s : State) (b : StatusBit) : (s.raise b).ntu = s.ntu.raise b := rfl

@[simp] theorem State.raise_pins (s : State) (b : StatusBit) : (s.raise b).pins = s.pins := rfl

@[simp] theorem State.raise_pending (s : State) (b : StatusBit) : (s.raise b).pending = s.pending := rfl

/-! ### latch -/

@[simp] theorem State.latch_lsv (s : State) : (s.latch).lsv = s.lsv := rfl

@[simp] theorem State.latch_ports (s : State) : (s.latch).ports = s.ports := rfl

@[simp] theorem State.latch_cpr (s : State) : (s.latch).cpr = s.cpr := rfl

@[simp] theorem State.latch_swt (s : State) : (s.latch).swt = s.swt := rfl

@[simp] theorem State.latch_hwi (s : State) : (s.latch).hwi = s.hwi := rfl

@[simp] theorem State.latch_psw (s : State) : (s.latch).psw = s.psw := rfl

@[simp] theorem State.latch_cpt (s : State) : (s.latch).cpt = { s.cpt with latched := s.cpt.args, collide := false } := rfl

@[simp] theorem State.latch_ntu (s : State) : (s.latch).ntu = s.ntu := rfl

@[simp] theorem State.latch_pins (s : State) : (s.latch).pins = s.pins := rfl

@[simp] theorem State.latch_pending (s : State) : (s.latch).pending = s.pending := rfl

/-! ### taken -/

@[simp] theorem State.taken_lsv (s : State) (c : HostCmd) : (s.taken c).lsv = s.lsv := rfl

@[simp] theorem State.taken_ports (s : State) (c : HostCmd) : (s.taken c).ports = s.ports := rfl

@[simp] theorem State.taken_cpr (s : State) (c : HostCmd) : (s.taken c).cpr = s.cpr := rfl

@[simp] theorem State.taken_swt (s : State) (c : HostCmd) : (s.taken c).swt = s.swt := rfl

@[simp] theorem State.taken_hwi (s : State) (c : HostCmd) : (s.taken c).hwi = s.hwi := rfl

@[simp] theorem State.taken_psw (s : State) (c : HostCmd) : (s.taken c).psw = s.psw := rfl

@[simp] theorem State.taken_cpt (s : State) (c : HostCmd) : (s.taken c).cpt = { s.cpt with latched := s.cpt.args, collide := false, inProgress := some c } := rfl

@[simp] theorem State.taken_ntu (s : State) (c : HostCmd) : (s.taken c).ntu = s.ntu := rfl

@[simp] theorem State.taken_pins (s : State) (c : HostCmd) : (s.taken c).pins = s.pins := rfl

@[simp] theorem State.taken_pending (s : State) (c : HostCmd) : (s.taken c).pending = s.pending := rfl

/-! ### collided -/

@[simp] theorem State.collided_lsv (s : State) : (s.collided).lsv = s.lsv := rfl

@[simp] theorem State.collided_ports (s : State) : (s.collided).ports = s.ports := rfl

@[simp] theorem State.collided_cpr (s : State) : (s.collided).cpr = s.cpr := rfl

@[simp] theorem State.collided_swt (s : State) : (s.collided).swt = s.swt := rfl

@[simp] theorem State.collided_hwi (s : State) : (s.collided).hwi = s.hwi := rfl

@[simp] theorem State.collided_psw (s : State) : (s.collided).psw = s.psw := rfl

@[simp] theorem State.collided_cpt (s : State) : (s.collided).cpt = { s.cpt with collide := true } := rfl

@[simp] theorem State.collided_ntu (s : State) : (s.collided).ntu = s.ntu := rfl

@[simp] theorem State.collided_pins (s : State) : (s.collided).pins = s.pins := rfl

@[simp] theorem State.collided_pending (s : State) : (s.collided).pending = s.pending := rfl

/-! ### complete -/

@[simp] theorem State.complete_lsv (s : State) (code : ResultCode) (w0 w1 w2 w3 : Word) : (s.complete code w0 w1 w2 w3).lsv = s.lsv := rfl

@[simp] theorem State.complete_ports (s : State) (code : ResultCode) (w0 w1 w2 w3 : Word) : (s.complete code w0 w1 w2 w3).ports = s.ports := rfl

@[simp] theorem State.complete_cpr (s : State) (code : ResultCode) (w0 w1 w2 w3 : Word) : (s.complete code w0 w1 w2 w3).cpr = s.cpr := rfl

@[simp] theorem State.complete_swt (s : State) (code : ResultCode) (w0 w1 w2 w3 : Word) : (s.complete code w0 w1 w2 w3).swt = s.swt := rfl

@[simp] theorem State.complete_hwi (s : State) (code : ResultCode) (w0 w1 w2 w3 : Word) : (s.complete code w0 w1 w2 w3).hwi = s.hwi := rfl

@[simp] theorem State.complete_psw (s : State) (code : ResultCode) (w0 w1 w2 w3 : Word) : (s.complete code w0 w1 w2 w3).psw = s.psw := rfl

@[simp] theorem State.complete_cpt (s : State) (code : ResultCode) (w0 w1 w2 w3 : Word) : (s.complete code w0 w1 w2 w3).cpt = { s.cpt with res := #v[w0, w1, w2, w3], last := code, inProgress := none } := rfl

@[simp] theorem State.complete_ntu (s : State) (code : ResultCode) (w0 w1 w2 w3 : Word) : (s.complete code w0 w1 w2 w3).ntu = s.ntu.raise .done := rfl

@[simp] theorem State.complete_pins (s : State) (code : ResultCode) (w0 w1 w2 w3 : Word) : (s.complete code w0 w1 w2 w3).pins = s.pins := rfl

@[simp] theorem State.complete_pending (s : State) (code : ResultCode) (w0 w1 w2 w3 : Word) : (s.complete code w0 w1 w2 w3).pending = s.pending := rfl

/-! ### completeBare -/

@[simp] theorem State.completeBare_lsv (s : State) (code : ResultCode) : (s.completeBare code).lsv = s.lsv := rfl

@[simp] theorem State.completeBare_ports (s : State) (code : ResultCode) : (s.completeBare code).ports = s.ports := rfl

@[simp] theorem State.completeBare_cpr (s : State) (code : ResultCode) : (s.completeBare code).cpr = s.cpr := rfl

@[simp] theorem State.completeBare_swt (s : State) (code : ResultCode) : (s.completeBare code).swt = s.swt := rfl

@[simp] theorem State.completeBare_hwi (s : State) (code : ResultCode) : (s.completeBare code).hwi = s.hwi := rfl

@[simp] theorem State.completeBare_psw (s : State) (code : ResultCode) : (s.completeBare code).psw = s.psw := rfl

@[simp] theorem State.completeBare_cpt (s : State) (code : ResultCode) : (s.completeBare code).cpt = { s.cpt with res := #v[0, 0, 0, 0], last := code, inProgress := none } := rfl

@[simp] theorem State.completeBare_ntu (s : State) (code : ResultCode) : (s.completeBare code).ntu = s.ntu.raise .done := rfl

@[simp] theorem State.completeBare_pins (s : State) (code : ResultCode) : (s.completeBare code).pins = s.pins := rfl

@[simp] theorem State.completeBare_pending (s : State) (code : ResultCode) : (s.completeBare code).pending = s.pending := rfl

/-! ### setWalker -/

@[simp] theorem State.setWalker_lsv (s : State) (w : Walker) : (s.setWalker w).lsv = s.lsv := rfl

@[simp] theorem State.setWalker_ports (s : State) (w : Walker) : (s.setWalker w).ports = s.ports := rfl

@[simp] theorem State.setWalker_cpr (s : State) (w : Walker) : (s.setWalker w).cpr = s.cpr := rfl

@[simp] theorem State.setWalker_swt (s : State) (w : Walker) : (s.setWalker w).swt = s.swt := rfl

@[simp] theorem State.setWalker_hwi (s : State) (w : Walker) : (s.setWalker w).hwi = s.hwi := rfl

@[simp] theorem State.setWalker_psw (s : State) (w : Walker) : (s.setWalker w).psw = s.psw := rfl

@[simp] theorem State.setWalker_cpt (s : State) (w : Walker) : (s.setWalker w).cpt = { s.cpt with walker := w } := rfl

@[simp] theorem State.setWalker_ntu (s : State) (w : Walker) : (s.setWalker w).ntu = s.ntu := rfl

@[simp] theorem State.setWalker_pins (s : State) (w : Walker) : (s.setWalker w).pins = s.pins := rfl

@[simp] theorem State.setWalker_pending (s : State) (w : Walker) : (s.setWalker w).pending = s.pending := rfl

/-! ### raiseIf -/

@[simp] theorem State.raiseIf_lsv (s : State) (c : Bool) (b : StatusBit) : (s.raiseIf c b).lsv = s.lsv := by cases c <;> rfl

@[simp] theorem State.raiseIf_ports (s : State) (c : Bool) (b : StatusBit) : (s.raiseIf c b).ports = s.ports := by cases c <;> rfl

@[simp] theorem State.raiseIf_cpr (s : State) (c : Bool) (b : StatusBit) : (s.raiseIf c b).cpr = s.cpr := by cases c <;> rfl

@[simp] theorem State.raiseIf_swt (s : State) (c : Bool) (b : StatusBit) : (s.raiseIf c b).swt = s.swt := by cases c <;> rfl

@[simp] theorem State.raiseIf_hwi (s : State) (c : Bool) (b : StatusBit) : (s.raiseIf c b).hwi = s.hwi := by cases c <;> rfl

@[simp] theorem State.raiseIf_psw (s : State) (c : Bool) (b : StatusBit) : (s.raiseIf c b).psw = s.psw := by cases c <;> rfl

@[simp] theorem State.raiseIf_cpt (s : State) (c : Bool) (b : StatusBit) : (s.raiseIf c b).cpt = s.cpt := by cases c <;> rfl

@[simp] theorem State.raiseIf_ntu (s : State) (c : Bool) (b : StatusBit) :
    (s.raiseIf c b).ntu = if c then s.ntu.raise b else s.ntu := by cases c <;> rfl

@[simp] theorem State.raiseIf_pins (s : State) (c : Bool) (b : StatusBit) : (s.raiseIf c b).pins = s.pins := by cases c <;> rfl

@[simp] theorem State.raiseIf_pending (s : State) (c : Bool) (b : StatusBit) : (s.raiseIf c b).pending = s.pending := by cases c <;> rfl

/-! ### afterTables -/

@[simp] theorem State.afterTables_lsv (s : State) (serving : Option PortNo) (o : TableOp) :
    (s.afterTables serving o).lsv = o.lsv := State.raiseIf_lsv _ _ _

@[simp] theorem State.afterTables_ports (s : State) (serving : Option PortNo) (o : TableOp) :
    (s.afterTables serving o).ports = placeAll serving s.ports o.out := State.raiseIf_ports _ _ _

@[simp] theorem State.afterTables_cpr (s : State) (serving : Option PortNo) (o : TableOp) :
    (s.afterTables serving o).cpr = s.cpr := State.raiseIf_cpr _ _ _

@[simp] theorem State.afterTables_swt (s : State) (serving : Option PortNo) (o : TableOp) :
    (s.afterTables serving o).swt = s.swt := State.raiseIf_swt _ _ _

@[simp] theorem State.afterTables_hwi (s : State) (serving : Option PortNo) (o : TableOp) :
    (s.afterTables serving o).hwi = s.hwi := State.raiseIf_hwi _ _ _

@[simp] theorem State.afterTables_psw (s : State) (serving : Option PortNo) (o : TableOp) :
    (s.afterTables serving o).psw = s.psw := State.raiseIf_psw _ _ _

@[simp] theorem State.afterTables_cpt (s : State) (serving : Option PortNo) (o : TableOp) :
    (s.afterTables serving o).cpt = s.cpt := State.raiseIf_cpt _ _ _

@[simp] theorem State.afterTables_ntu (s : State) (serving : Option PortNo) (o : TableOp) :
    (s.afterTables serving o).ntu = if o.tapEnded then s.ntu.raise .tap else s.ntu := State.raiseIf_ntu _ _ _

@[simp] theorem State.afterTables_pins (s : State) (serving : Option PortNo) (o : TableOp) :
    (s.afterTables serving o).pins = s.pins := State.raiseIf_pins _ _ _

@[simp] theorem State.afterTables_pending (s : State) (serving : Option PortNo) (o : TableOp) :
    (s.afterTables serving o).pending = s.pending := State.raiseIf_pending _ _ _

/-! ### pollServing -/

@[simp] theorem State.pollServing_lsv (s : State) : s.pollServing.lsv = s.lsv := by
  unfold State.pollServing; split <;> rfl

@[simp] theorem State.pollServing_ports (s : State) : s.pollServing.ports = s.ports := by
  unfold State.pollServing; split <;> rfl

theorem State.pollServing_cpr (s : State) :
    s.pollServing.cpr = if s.anyEligible then { s.cpr with requested := true } else s.cpr := by
  unfold State.pollServing; split <;> rfl

@[simp] theorem State.pollServing_swt (s : State) : s.pollServing.swt = s.swt := by
  unfold State.pollServing; split <;> rfl

@[simp] theorem State.pollServing_hwi (s : State) : s.pollServing.hwi = s.hwi := by
  unfold State.pollServing; split <;> rfl

@[simp] theorem State.pollServing_psw (s : State) : s.pollServing.psw = s.psw := by
  unfold State.pollServing; split <;> rfl

@[simp] theorem State.pollServing_cpt (s : State) : s.pollServing.cpt = s.cpt := by
  unfold State.pollServing; split <;> rfl

@[simp] theorem State.pollServing_ntu (s : State) : s.pollServing.ntu = s.ntu := by
  unfold State.pollServing; split <;> rfl

@[simp] theorem State.pollServing_pins (s : State) : s.pollServing.pins = s.pins := by
  unfold State.pollServing; split <;> rfl

@[simp] theorem State.pollServing_pending (s : State) : s.pollServing.pending = s.pending := by
  unfold State.pollServing; split <;> rfl

/-! ### Lsv.setLease -/

@[simp] theorem Lsv.setLease_leases (v : Lsv) (l : LeaseNo) (r : Lease) : (v.setLease l r).leases = upd v.leases l r := rfl

@[simp] theorem Lsv.setLease_chanMap (v : Lsv) (l : LeaseNo) (r : Lease) : (v.setLease l r).chanMap = v.chanMap := rfl

@[simp] theorem Lsv.setLease_slots (v : Lsv) (l : LeaseNo) (r : Lease) : (v.setLease l r).slots = v.slots := rfl

@[simp] theorem Lsv.setLease_freeList (v : Lsv) (l : LeaseNo) (r : Lease) : (v.setLease l r).freeList = v.freeList := rfl

@[simp] theorem Lsv.setLease_quarantine (v : Lsv) (l : LeaseNo) (r : Lease) : (v.setLease l r).quarantine = v.quarantine := rfl

@[simp] theorem Lsv.setLease_guardSetting (v : Lsv) (l : LeaseNo) (r : Lease) : (v.setLease l r).guardSetting = v.guardSetting := rfl

@[simp] theorem Lsv.setLease_floors (v : Lsv) (l : LeaseNo) (r : Lease) : (v.setLease l r).floors = v.floors := rfl

@[simp] theorem Lsv.setLease_groups (v : Lsv) (l : LeaseNo) (r : Lease) : (v.setLease l r).groups = v.groups := rfl

@[simp] theorem Lsv.setLease_tap (v : Lsv) (l : LeaseNo) (r : Lease) : (v.setLease l r).tap = v.tap := rfl

@[simp] theorem Lsv.setLease_attention (v : Lsv) (l : LeaseNo) (r : Lease) : (v.setLease l r).attention = v.attention := rfl

/-! ### Lsv.bind -/

@[simp] theorem Lsv.bind_leases (v : Lsv) (p : PortNo) (c : ChanNo) (e : Option LeaseNo) : (v.bind p c e).leases = v.leases := rfl

@[simp] theorem Lsv.bind_chanMap (v : Lsv) (p : PortNo) (c : ChanNo) (e : Option LeaseNo) : (v.bind p c e).chanMap = upd v.chanMap p (upd v.chanMap[p] c e) := rfl

@[simp] theorem Lsv.bind_slots (v : Lsv) (p : PortNo) (c : ChanNo) (e : Option LeaseNo) : (v.bind p c e).slots = v.slots := rfl

@[simp] theorem Lsv.bind_freeList (v : Lsv) (p : PortNo) (c : ChanNo) (e : Option LeaseNo) : (v.bind p c e).freeList = v.freeList := rfl

@[simp] theorem Lsv.bind_quarantine (v : Lsv) (p : PortNo) (c : ChanNo) (e : Option LeaseNo) : (v.bind p c e).quarantine = v.quarantine := rfl

@[simp] theorem Lsv.bind_guardSetting (v : Lsv) (p : PortNo) (c : ChanNo) (e : Option LeaseNo) : (v.bind p c e).guardSetting = v.guardSetting := rfl

@[simp] theorem Lsv.bind_floors (v : Lsv) (p : PortNo) (c : ChanNo) (e : Option LeaseNo) : (v.bind p c e).floors = v.floors := rfl

@[simp] theorem Lsv.bind_groups (v : Lsv) (p : PortNo) (c : ChanNo) (e : Option LeaseNo) : (v.bind p c e).groups = v.groups := rfl

@[simp] theorem Lsv.bind_tap (v : Lsv) (p : PortNo) (c : ChanNo) (e : Option LeaseNo) : (v.bind p c e).tap = v.tap := rfl

@[simp] theorem Lsv.bind_attention (v : Lsv) (p : PortNo) (c : ChanNo) (e : Option LeaseNo) : (v.bind p c e).attention = v.attention := rfl

/-! ### Lsv.setSlot -/

@[simp] theorem Lsv.setSlot_leases (v : Lsv) (sl : SlotNo) (r : SlotRec) : (v.setSlot sl r).leases = v.leases := rfl

@[simp] theorem Lsv.setSlot_chanMap (v : Lsv) (sl : SlotNo) (r : SlotRec) : (v.setSlot sl r).chanMap = v.chanMap := rfl

@[simp] theorem Lsv.setSlot_slots (v : Lsv) (sl : SlotNo) (r : SlotRec) : (v.setSlot sl r).slots = upd v.slots sl r := rfl

@[simp] theorem Lsv.setSlot_freeList (v : Lsv) (sl : SlotNo) (r : SlotRec) : (v.setSlot sl r).freeList = v.freeList := rfl

@[simp] theorem Lsv.setSlot_quarantine (v : Lsv) (sl : SlotNo) (r : SlotRec) : (v.setSlot sl r).quarantine = v.quarantine := rfl

@[simp] theorem Lsv.setSlot_guardSetting (v : Lsv) (sl : SlotNo) (r : SlotRec) : (v.setSlot sl r).guardSetting = v.guardSetting := rfl

@[simp] theorem Lsv.setSlot_floors (v : Lsv) (sl : SlotNo) (r : SlotRec) : (v.setSlot sl r).floors = v.floors := rfl

@[simp] theorem Lsv.setSlot_groups (v : Lsv) (sl : SlotNo) (r : SlotRec) : (v.setSlot sl r).groups = v.groups := rfl

@[simp] theorem Lsv.setSlot_tap (v : Lsv) (sl : SlotNo) (r : SlotRec) : (v.setSlot sl r).tap = v.tap := rfl

@[simp] theorem Lsv.setSlot_attention (v : Lsv) (sl : SlotNo) (r : SlotRec) : (v.setSlot sl r).attention = v.attention := rfl

/-! ### Lsv.setGroup -/

@[simp] theorem Lsv.setGroup_leases (v : Lsv) (g : GroupNo) (r : Group) : (v.setGroup g r).leases = v.leases := rfl

@[simp] theorem Lsv.setGroup_chanMap (v : Lsv) (g : GroupNo) (r : Group) : (v.setGroup g r).chanMap = v.chanMap := rfl

@[simp] theorem Lsv.setGroup_slots (v : Lsv) (g : GroupNo) (r : Group) : (v.setGroup g r).slots = v.slots := rfl

@[simp] theorem Lsv.setGroup_freeList (v : Lsv) (g : GroupNo) (r : Group) : (v.setGroup g r).freeList = v.freeList := rfl

@[simp] theorem Lsv.setGroup_quarantine (v : Lsv) (g : GroupNo) (r : Group) : (v.setGroup g r).quarantine = v.quarantine := rfl

@[simp] theorem Lsv.setGroup_guardSetting (v : Lsv) (g : GroupNo) (r : Group) : (v.setGroup g r).guardSetting = v.guardSetting := rfl

@[simp] theorem Lsv.setGroup_floors (v : Lsv) (g : GroupNo) (r : Group) : (v.setGroup g r).floors = v.floors := rfl

@[simp] theorem Lsv.setGroup_groups (v : Lsv) (g : GroupNo) (r : Group) : (v.setGroup g r).groups = upd v.groups g r := rfl

@[simp] theorem Lsv.setGroup_tap (v : Lsv) (g : GroupNo) (r : Group) : (v.setGroup g r).tap = v.tap := rfl

@[simp] theorem Lsv.setGroup_attention (v : Lsv) (g : GroupNo) (r : Group) : (v.setGroup g r).attention = v.attention := rfl

end Sys2Proof.Machine
end

