-- ==== Sys2Proof/Laws/Tables.lean ====
section
/-! SUPPORT. What the table operations can do: replaced and computed entries, notices, slots, and the channel map. -/

namespace Sys2Proof

/-! ### Tables -/

/-- An entry of a table after a replacement. -/
theorem upd_get {α : Type} {n : Nat} (v : Vector α n) (i j : Fin n) (x : α) :
    (upd v i x)[j] = if i = j then x else v[j] := by
  simp [upd, Vector.getElem_set, Fin.ext_iff]

theorem upd_get_self {α : Type} {n : Nat} (v : Vector α n) (i : Fin n) (x : α) : (upd v i x)[i] = x := by
  rw [upd_get, if_pos rfl]

theorem upd_get_other {α : Type} {n : Nat} (v : Vector α n) {i j : Fin n} (h : i ≠ j) (x : α) :
    (upd v i x)[j] = v[j] := by
  rw [upd_get, if_neg h]

/-- The same with a plain number as index, the form simp leaves an index in. -/
@[simp] theorem upd_getElem {α : Type} {n : Nat} (v : Vector α n) (i : Fin n) (x : α) (j : Nat) (h : j < n) :
    (upd v i x)[j] = if i.val = j then x else v[j] := by
  simp [upd, Vector.getElem_set]

/-- Replacing twice is replacing once. -/
@[simp] theorem upd_upd {α : Type} {n : Nat} (v : Vector α n) (i : Fin n) (x y : α) : upd (upd v i x) i y = upd v i y := by
  simp [upd]

/-- Putting back what is there changes nothing. -/
@[simp] theorem upd_same {α : Type} {n : Nat} (v : Vector α n) (i : Fin n) : upd v i v[i] = v := by
  simp [upd]

/-- An entry of a computed table. -/
theorem tab_get {α : Type} {n : Nat} (f : Fin n → α) (i : Fin n) : (tab n f)[i] = f i := by
  simp [tab]

/-- The same with a plain number as index. -/
@[simp] theorem tab_getElem {α : Type} {n : Nat} (f : Fin n → α) (i : Nat) (h : i < n) : (tab n f)[i] = f ⟨i, h⟩ := by
  simp [tab]

/-- Two tables with the same entries are the same. -/
theorem table_ext {α : Type} {n : Nat} {v w : Vector α n} (h : ∀ i : Fin n, v[i] = w[i]) : v = w := by
  apply Vector.ext
  intro i hi
  exact h ⟨i, hi⟩

end Sys2Proof

namespace Sys2Proof.Machine

/-! ### The channel map -/

/-- The channel map after one entry is set (R12). -/
theorem Lsv.entry_bind (v : Lsv) (p q : PortNo) (c d : ChanNo) (e : Option LeaseNo) :
    (v.bind p c e).entry q d = if p = q ∧ c = d then e else v.entry q d := by
  unfold Lsv.entry
  rw [Lsv.bind_chanMap, upd_get]
  by_cases hp : p = q
  · subst hp
    rw [if_pos rfl, upd_get]
    by_cases hc : c = d
    · rw [if_pos hc, if_pos ⟨rfl, hc⟩]
    · rw [if_neg hc, if_neg fun h => hc h.2]
  · rw [if_neg hp, if_neg fun h => hp h.1]

/-- Only `bind` changes the channel map. -/
@[simp] theorem Lsv.entry_setLease (v : Lsv) (l : LeaseNo) (r : Lease) (p : PortNo) (c : ChanNo) :
    (v.setLease l r).entry p c = v.entry p c := rfl

@[simp] theorem Lsv.entry_setSlot (v : Lsv) (sl : SlotNo) (r : SlotRec) (p : PortNo) (c : ChanNo) :
    (v.setSlot sl r).entry p c = v.entry p c := rfl

@[simp] theorem Lsv.entry_setGroup (v : Lsv) (g : GroupNo) (r : Group) (p : PortNo) (c : ChanNo) :
    (v.setGroup g r).entry p c = v.entry p c := rfl

/-! ### Notices (R8, R158) -/

@[simp] theorem Lsv.addNotice_chanMap (v : Lsv) (l : LeaseNo) (k : Notice) : (v.addNotice l k).chanMap = v.chanMap := by
  unfold Lsv.addNotice; dsimp only; split <;> rfl

@[simp] theorem Lsv.addNotice_slots (v : Lsv) (l : LeaseNo) (k : Notice) : (v.addNotice l k).slots = v.slots := by
  unfold Lsv.addNotice; dsimp only; split <;> rfl

@[simp] theorem Lsv.addNotice_freeList (v : Lsv) (l : LeaseNo) (k : Notice) : (v.addNotice l k).freeList = v.freeList := by
  unfold Lsv.addNotice; dsimp only; split <;> rfl

@[simp] theorem Lsv.addNotice_quarantine (v : Lsv) (l : LeaseNo) (k : Notice) :
    (v.addNotice l k).quarantine = v.quarantine := by
  unfold Lsv.addNotice; dsimp only; split <;> rfl

@[simp] theorem Lsv.addNotice_guardSetting (v : Lsv) (l : LeaseNo) (k : Notice) :
    (v.addNotice l k).guardSetting = v.guardSetting := by
  unfold Lsv.addNotice; dsimp only; split <;> rfl

@[simp] theorem Lsv.addNotice_floors (v : Lsv) (l : LeaseNo) (k : Notice) : (v.addNotice l k).floors = v.floors := by
  unfold Lsv.addNotice; dsimp only; split <;> rfl

@[simp] theorem Lsv.addNotice_groups (v : Lsv) (l : LeaseNo) (k : Notice) : (v.addNotice l k).groups = v.groups := by
  unfold Lsv.addNotice; dsimp only; split <;> rfl

@[simp] theorem Lsv.addNotice_tap (v : Lsv) (l : LeaseNo) (k : Notice) : (v.addNotice l k).tap = v.tap := by
  unfold Lsv.addNotice; dsimp only; split <;> rfl

@[simp] theorem Lsv.entry_addNotice (v : Lsv) (l : LeaseNo) (k : Notice) (p : PortNo) (c : ChanNo) :
    (v.addNotice l k).entry p c = v.entry p c := by
  simp [Lsv.entry]

/-- The records after a notice is added: the lease's notice set alone can change (R8). -/
theorem Lsv.addNotice_lease (v : Lsv) (l j : LeaseNo) (k : Notice) :
    (v.addNotice l k).leases[j] =
      if l = j ∧ v.collects v.leases[l] k then { v.leases[l] with notices := v.leases[l].notices.add k } else v.leases[j] := by
  unfold Lsv.addNotice
  dsimp only
  by_cases h : v.collects v.leases[l] k
  · rw [if_pos h]
    by_cases hj : l = j
    · subst hj
      rw [if_pos (And.intro rfl h)]
      exact upd_get_self _ _ _
    · rw [if_neg (fun x : l = j ∧ _ => hj x.1)]
      exact upd_get_other _ hj _
  · rw [if_neg h, if_neg (fun x : l = j ∧ _ => h x.2)]

/-- The attention list after a notice is added: a set that was empty joins the tail (R158). -/
theorem Lsv.addNotice_attention (v : Lsv) (l : LeaseNo) (k : Notice) :
    (v.addNotice l k).attention =
      if v.collects v.leases[l] k ∧ v.leases[l].notices = 0 then v.attention ++ [l] else v.attention := by
  unfold Lsv.addNotice
  by_cases h : v.collects v.leases[l] k <;> by_cases hn : v.leases[l].notices = 0
  · rw [if_pos (And.intro h hn)]; simp only [if_pos h, if_pos hn]
  · rw [if_neg (fun x : _ ∧ v.leases[l].notices = 0 => hn x.2)]; simp only [if_pos h, if_neg hn]
  · rw [if_neg (fun x : v.collects v.leases[l] k = true ∧ _ => h x.1)]; simp only [if_neg h]
  · rw [if_neg (fun x : v.collects v.leases[l] k = true ∧ _ => h x.1)]; simp only [if_neg h]

/-- A set to which a kind has been added is not empty. -/
theorem NoticeSet.add_ne_zero (n : NoticeSet) (k : Notice) : n.add k ≠ 0 := by
  intro h
  have hb : (n.add k).getLsbD k.bit = true := by
    have hk : k.bit < 7 := by cases k <;> decide
    simp [NoticeSet.add, hk]
  rw [h] at hb
  simp at hb

/-- The set holds a kind that has been added. -/
@[simp] theorem NoticeSet.has_add (n : NoticeSet) (k : Notice) : (n.add k).has k = true := by
  have hk : k.bit < 7 := by cases k <;> decide
  simp [NoticeSet.has, NoticeSet.add, hk]

/-! ### Slots (R17, R30 to R33) -/

@[simp] theorem Lsv.toPool_leases (v : Lsv) (sl : SlotNo) : (v.toPool sl).leases = v.leases := by
  unfold Lsv.toPool; split <;> rfl

@[simp] theorem Lsv.toPool_chanMap (v : Lsv) (sl : SlotNo) : (v.toPool sl).chanMap = v.chanMap := by
  unfold Lsv.toPool; split <;> rfl

@[simp] theorem Lsv.toPool_groups (v : Lsv) (sl : SlotNo) : (v.toPool sl).groups = v.groups := by
  unfold Lsv.toPool; split <;> rfl

@[simp] theorem Lsv.toPool_tap (v : Lsv) (sl : SlotNo) : (v.toPool sl).tap = v.tap := by
  unfold Lsv.toPool; split <;> rfl

@[simp] theorem Lsv.toPool_attention (v : Lsv) (sl : SlotNo) : (v.toPool sl).attention = v.attention := by
  unfold Lsv.toPool; split <;> rfl

@[simp] theorem Lsv.giveUp_leases (v : Lsv) (sl : SlotNo) : (v.giveUp sl).leases = v.leases := by
  unfold Lsv.giveUp; split <;> simp

@[simp] theorem Lsv.giveUp_chanMap (v : Lsv) (sl : SlotNo) : (v.giveUp sl).chanMap = v.chanMap := by
  unfold Lsv.giveUp; split <;> simp

@[simp] theorem Lsv.giveUp_groups (v : Lsv) (sl : SlotNo) : (v.giveUp sl).groups = v.groups := by
  unfold Lsv.giveUp; split <;> simp

@[simp] theorem Lsv.giveUp_tap (v : Lsv) (sl : SlotNo) : (v.giveUp sl).tap = v.tap := by
  unfold Lsv.giveUp; split <;> simp

@[simp] theorem Lsv.giveUp_attention (v : Lsv) (sl : SlotNo) : (v.giveUp sl).attention = v.attention := by
  unfold Lsv.giveUp; split <;> simp

@[simp] theorem Lsv.takeSlot_leases (v : Lsv) (sl : SlotNo) (l : LeaseNo) : (v.takeSlot sl l).leases = v.leases := by
  unfold Lsv.takeSlot; split <;> rfl

@[simp] theorem Lsv.takeSlot_chanMap (v : Lsv) (sl : SlotNo) (l : LeaseNo) : (v.takeSlot sl l).chanMap = v.chanMap := by
  unfold Lsv.takeSlot; split <;> rfl

@[simp] theorem Lsv.takeSlot_groups (v : Lsv) (sl : SlotNo) (l : LeaseNo) : (v.takeSlot sl l).groups = v.groups := by
  unfold Lsv.takeSlot; split <;> rfl

@[simp] theorem Lsv.takeSlot_tap (v : Lsv) (sl : SlotNo) (l : LeaseNo) : (v.takeSlot sl l).tap = v.tap := by
  unfold Lsv.takeSlot; split <;> rfl

@[simp] theorem Lsv.takeSlot_attention (v : Lsv) (sl : SlotNo) (l : LeaseNo) :
    (v.takeSlot sl l).attention = v.attention := by
  unfold Lsv.takeSlot; split <;> rfl

@[simp] theorem Lsv.leaveSlot_leases (v : Lsv) (keep : Bool) (r : Lease) : (v.leaveSlot keep r).leases = v.leases := by
  unfold Lsv.leaveSlot; split <;> (try split) <;> simp

@[simp] theorem Lsv.leaveSlot_chanMap (v : Lsv) (keep : Bool) (r : Lease) : (v.leaveSlot keep r).chanMap = v.chanMap := by
  unfold Lsv.leaveSlot; split <;> (try split) <;> simp

@[simp] theorem Lsv.leaveSlot_groups (v : Lsv) (keep : Bool) (r : Lease) : (v.leaveSlot keep r).groups = v.groups := by
  unfold Lsv.leaveSlot; split <;> (try split) <;> simp

@[simp] theorem Lsv.leaveSlot_tap (v : Lsv) (keep : Bool) (r : Lease) : (v.leaveSlot keep r).tap = v.tap := by
  unfold Lsv.leaveSlot; split <;> (try split) <;> simp

@[simp] theorem Lsv.leaveSlot_attention (v : Lsv) (keep : Bool) (r : Lease) :
    (v.leaveSlot keep r).attention = v.attention := by
  unfold Lsv.leaveSlot; split <;> (try split) <;> simp

/-! ### Listeners at a change of talker (R18, R56) -/

/-- A listener's turn touches records and the attention list alone. -/
theorem moveListener_frame (sc : Option Scope) (old new : LeaseState) (third : Fin 128) (acc : Lsv × List Unsolicited)
    (l : LeaseNo) :
    (moveListener sc old new third acc l).1.chanMap = acc.1.chanMap ∧
      (moveListener sc old new third acc l).1.slots = acc.1.slots ∧
      (moveListener sc old new third acc l).1.freeList = acc.1.freeList ∧
      (moveListener sc old new third acc l).1.quarantine = acc.1.quarantine ∧
      (moveListener sc old new third acc l).1.groups = acc.1.groups ∧
      (moveListener sc old new third acc l).1.tap = acc.1.tap := by
  unfold moveListener
  dsimp only
  split <;> simp

/-- Another record is not touched by a notice. -/
theorem Lsv.addNotice_other (v : Lsv) {l j : LeaseNo} (k : Notice) (h : l ≠ j) :
    (v.addNotice l k).leases[j] = v.leases[j] := by
  rw [Lsv.addNotice_lease, if_neg fun x => h x.1]

/-- Another record is not touched by a listener's turn. -/
theorem moveListener_other (sc : Option Scope) (old new : LeaseState) (third : Fin 128) (acc : Lsv × List Unsolicited)
    {l j : LeaseNo} (h : l ≠ j) : (moveListener sc old new third acc l).1.leases[j] = acc.1.leases[j] := by
  unfold moveListener
  dsimp only
  by_cases hs : acc.1.leases[l].state = old
  · rw [if_pos hs, Lsv.addNotice_other _ _ h]; exact upd_get_other _ h _
  · rw [if_neg hs, Lsv.addNotice_other _ _ h]

/-- A notice leaves a record everything but its notice set (R8). -/
theorem Lsv.addNotice_keeps (v : Lsv) (l j : LeaseNo) (k : Notice) :
    ∃ n, (v.addNotice l k).leases[j] = { v.leases[j] with notices := n } := by
  rw [Lsv.addNotice_lease]
  by_cases h : l = j ∧ v.collects v.leases[l] k
  · rw [if_pos h]; obtain ⟨rfl, _⟩ := h; exact ⟨_, rfl⟩
  · rw [if_neg h]; exact ⟨_, rfl⟩

/-- A record keeps everything but its state and its notices through any listener's turn (R60, R65). -/
theorem moveListener_keeps (sc : Option Scope) (old new : LeaseState) (third : Fin 128) (acc : Lsv × List Unsolicited)
    (l j : LeaseNo) :
    ∃ st n, (moveListener sc old new third acc l).1.leases[j] = { acc.1.leases[j] with state := st, notices := n } := by
  by_cases h : l = j
  · subst h
    unfold moveListener
    dsimp only
    by_cases hs : acc.1.leases[l].state = old
    · rw [if_pos hs]
      obtain ⟨n, hn⟩ := Lsv.addNotice_keeps (acc.1.setLease l { acc.1.leases[l] with state := new }) l l .talkerChange
      refine ⟨new, n, hn.trans ?_⟩
      rw [Lsv.setLease_leases, upd_get_self]
    · rw [if_neg hs]
      obtain ⟨n, hn⟩ := Lsv.addNotice_keeps acc.1 l l .talkerChange
      exact ⟨_, n, hn⟩
  · exact ⟨_, _, moveListener_other sc old new third acc h⟩

end Sys2Proof.Machine
end

