-- ==== Sys2Proof/Laws/Ops.lean ====
section
/-! SUPPORT. What the shared operations can do: the forms of a host command, reply queues, counters, notices of a port
event, and the fault input. -/

namespace Sys2Proof.Machine

/-! ### Numbers out of argument fields -/

theorem below_some {n x : Nat} (i : Fin n) (h : x = i.val) : below n x = some i := by
  subst h
  simp [below]

theorem below_none {n x : Nat} (h : n ≤ x) : below n x = none := by
  simp [below, Nat.not_lt.mpr h]

theorem below_eq_some {n x : Nat} {i : Fin n} : below n x = some i ↔ x = i.val := by
  constructor
  · intro h
    unfold below at h
    split at h
    · rw [← Option.some.inj h]
    · cases h
  · exact below_some i

/-! ### Live records -/

/-- The record is live exactly in the states ACTIVE, WAITING and CONDITIONED (01 §1.1). -/
theorem Lease.live_iff (r : Lease) : r.live = true ↔ r.state = .active ∨ r.state = .waiting ∨ r.state = .conditioned := by
  unfold Lease.live
  cases r.state <;> simp

@[simp] theorem Lease.cleared_live : Lease.cleared.live = false := rfl

/-- A lease number is among the live ones that meet a test exactly when its record does. -/
theorem Lsv.mem_liveWhere (v : Lsv) (t : Lease → Bool) (l : LeaseNo) :
    l ∈ v.liveWhere t ↔ v.leases[l].live = true ∧ t v.leases[l] = true := by
  unfold Lsv.liveWhere
  rw [List.mem_filter, Bool.and_eq_true]
  exact ⟨fun h => h.2, fun h => ⟨List.mem_finRange l, h⟩⟩

theorem Lsv.liveWhere_nodup (v : Lsv) (t : Lease → Bool) : (v.liveWhere t).Nodup :=
  (List.nodup_finRange 128).filter _

/-! ### Saturating counters -/

theorem saturate_eq (n : Nat) : saturate n = min (n + 1) 65535 := by
  unfold saturate Config.counterMax
  split <;> omega

theorem saturate_le (n : Nat) : saturate n ≤ 65535 := by
  rw [saturate_eq]
  omega

/-! ### The forms of a host command (R169 to R171; log 5) -/

/-- While RESET is asserted no form does anything (R183). -/
theorem hostCommand_reset (c : HostCmd) (ph : Phase) (run : State → State) {s : State} (h : s.pins.reset = true) :
    hostCommand c ph run s = s := by
  simp [hostCommand, h]

/-- The whole command with BUSY 0: it runs on the latched arguments. -/
theorem hostCommand_whole (c : HostCmd) (run : State → State) {s : State} (hr : s.pins.reset = false)
    (hb : s.cpt.inProgress = none) : hostCommand c .whole run s = run (s.taken c) := by
  simp [hostCommand, hr, State.busy, hb]

/-- The write of CMD with BUSY 0. -/
theorem hostCommand_write (c : HostCmd) (run : State → State) {s : State} (hr : s.pins.reset = false)
    (hb : s.cpt.inProgress = none) : hostCommand c .write run s = s.taken c := by
  simp [hostCommand, hr, State.busy, hb]

/-- A write of CMD with BUSY 1 collides. -/
theorem hostCommand_collides (c : HostCmd) {ph : Phase} (run : State → State) {s : State} (hr : s.pins.reset = false)
    (hb : s.cpt.inProgress ≠ none) (hp : ph ≠ .take) : hostCommand c ph run s = s.collided := by
  have hb' : s.busy = true := by simpa [State.busy] using Option.isSome_iff_ne_none.mpr hb
  cases ph
  · simp [hostCommand, hr, hb']
  · simp [hostCommand, hr, hb']
  · exact absurd rfl hp

/-- The taking of the command in progress. -/
theorem hostCommand_take (c : HostCmd) (run : State → State) {s : State} (hr : s.pins.reset = false)
    (hb : s.cpt.inProgress = some c) : hostCommand c .take run s = run s := by
  simp [hostCommand, hr, hb]

/-- The taking of a command that is not in progress does nothing (log 2). -/
theorem hostCommand_idle (c : HostCmd) (run : State → State) {s : State} (hb : s.cpt.inProgress ≠ some c) :
    hostCommand c .take run s = s := by
  unfold hostCommand
  rw [if_neg hb]
  split <;> rfl

/-! ### Reply queues (R81, R83, R84) -/

theorem placeAll_nil (serving : Option PortNo) (ports : Vector Port 4) : placeAll serving ports [] = ports := rfl

theorem placeAll_cons (serving : Option PortNo) (ports : Vector Port 4) (u : Unsolicited) (us : List Unsolicited) :
    placeAll serving ports (u :: us) = placeAll serving (placeOne serving ports u) us := rfl

/-- Placing one reply leaves a port everything but its queue and REPLY_LOST: the reply joins a queue with room, or is lost. -/
theorem placeOne_port (serving : Option PortNo) (ports : Vector Port 4) (u : Unsolicited) (p : PortNo) :
    (placeOne serving ports u)[p] = ports[p] ∨
      (p = u.port ∧ ports[p].lpi.answers = true ∧
        ((ports[p].cch.queue.length < unsolicitedRoom serving p ∧
            (placeOne serving ports u)[p] = { ports[p] with cch := ports[p].cch.append u.reply }) ∨
          (placeOne serving ports u)[p] = { ports[p] with cch := ports[p].cch.loseReply })) := by
  unfold placeOne
  dsimp only
  by_cases hp : u.port = p
  · subst hp
    by_cases ha : ports[u.port].lpi.answers = true
    · rw [if_neg (by rw [ha]; decide)]
      by_cases hq : ports[u.port].cch.queue.length < unsolicitedRoom serving u.port
      · rw [if_pos hq]
        exact Or.inr ⟨rfl, ha, Or.inl ⟨hq, upd_get_self _ _ _⟩⟩
      · rw [if_neg hq]
        exact Or.inr ⟨rfl, ha, Or.inr (upd_get_self _ _ _)⟩
    · rw [if_pos (by rw [Bool.not_eq_true] at ha; rw [ha]; rfl)]
      exact Or.inl rfl
  · left
    split
    · rfl
    · split
      · exact upd_get_other _ hp _
      · exact upd_get_other _ hp _

/-- A property of a port that no placing of one reply breaks holds after the placing of all. -/
theorem placeAll_port (P : Port → Prop) (serving : Option PortNo) (p : PortNo)
    (one : ∀ (ports : Vector Port 4) (u : Unsolicited), P ports[p] → P (placeOne serving ports u)[p])
    (us : List Unsolicited) (ports : Vector Port 4) (h : P ports[p]) : P (placeAll serving ports us)[p] := by
  induction us generalizing ports with
  | nil => exact h
  | cons u us ih => exact ih _ (one ports u h)

/-- Placing replies changes nothing of a port but its queue and its counters. -/
theorem placeAll_frame (serving : Option PortNo) (ports : Vector Port 4) (us : List Unsolicited) (p : PortNo) :
    ∃ (queue : List Reply) (counters : Counters),
      (placeAll serving ports us)[p] = { ports[p] with cch := { ports[p].cch with queue := queue, counters := counters } } := by
  refine placeAll_port (fun x => ∃ (queue : List Reply) (counters : Counters),
    x = { ports[p] with cch := { ports[p].cch with queue := queue, counters := counters } }) serving p ?_ us ports ⟨_, _, rfl⟩
  rintro q u ⟨queue, counters, hq⟩
  rcases placeOne_port serving q u p with h | ⟨-, -, ⟨-, h⟩ | h⟩
  · rw [h]; exact ⟨_, _, hq⟩
  · rw [h, hq]; exact ⟨_, _, rfl⟩
  · rw [h, hq]; exact ⟨_, _, rfl⟩

/-- Placing replies never fills a queue above the room that it leaves to unsolicited replies, or above what it held. -/
theorem placeAll_queue (serving : Option PortNo) (ports : Vector Port 4) (us : List Unsolicited) (p : PortNo) :
    (placeAll serving ports us)[p].cch.queue.length ≤
      max ports[p].cch.queue.length (unsolicitedRoom serving p) := by
  refine placeAll_port (fun x => x.cch.queue.length ≤ max ports[p].cch.queue.length (unsolicitedRoom serving p)) serving p ?_
    us ports (Nat.le_max_left _ _)
  intro q u hq
  rcases placeOne_port serving q u p with h | ⟨-, -, ⟨hl, h⟩ | h⟩
  · rw [h]; exact hq
  · rw [h]
    simp only [Cch.append, List.length_append, List.length_singleton]
    omega
  · rw [h]; exact hq

/-- A port that does not answer is left as it is. -/
theorem placeAll_silent (serving : Option PortNo) (ports : Vector Port 4) (us : List Unsolicited) (p : PortNo)
    (h : ports[p].lpi.answers = false) : (placeAll serving ports us)[p] = ports[p] := by
  refine placeAll_port (fun x => x = ports[p]) serving p ?_ us ports rfl
  intro q u hq
  rcases placeOne_port serving q u p with hs | ⟨-, ha, -⟩
  · rw [hs, hq]
  · rw [hq, h] at ha; cases ha

/-! ### Serving requests (R91) -/

theorem Port.eligible_iff (x : Port) : x.eligible = true ↔ x.cch.bufA.isSome = true ∧ x.cch.queue.length ≤ 6 := by
  unfold Port.eligible
  rw [Bool.and_eq_true]
  exact and_congr_right fun _ => decide_eq_true_iff

theorem State.anyEligible_iff (s : State) : s.anyEligible = true ↔ ∃ p : PortNo, s.ports[p].eligible = true := by
  unfold State.anyEligible
  rw [List.any_eq_true]
  exact ⟨fun ⟨p, _, h⟩ => ⟨p, h⟩, fun ⟨p, h⟩ => ⟨p, List.mem_finRange p, h⟩⟩

/-! ### The leases of a port at its entry to FAULTED and its recovery (R117, R120) -/

/-- One lease's turn: its state and its notice set alone change. -/
theorem changeLease_lease (f : Lease → LeaseState) (k : Notice) (v : Lsv) (l : LeaseNo) :
    (changeLease f k v l).leases[l] =
      if v.collects v.leases[l] k
      then { v.leases[l] with state := f v.leases[l], notices := v.leases[l].notices.add k }
      else { v.leases[l] with state := f v.leases[l] } := by
  unfold changeLease
  rw [Lsv.addNotice_lease, Lsv.setLease_leases, upd_get_self]
  by_cases h : v.collects v.leases[l] k = true
  · rw [if_pos h, if_pos ⟨rfl, h⟩]
  · rw [if_neg h, if_neg fun x => h x.2]

/-- Another lease is not touched. -/
theorem changeLease_other (f : Lease → LeaseState) (k : Notice) (v : Lsv) {l j : LeaseNo} (h : l ≠ j) :
    (changeLease f k v l).leases[j] = v.leases[j] := by
  unfold changeLease
  rw [Lsv.addNotice_other _ _ h]
  exact upd_get_other _ h _

/-- The attention list after one lease's turn. -/
theorem changeLease_attention (f : Lease → LeaseState) (k : Notice) (v : Lsv) (l : LeaseNo) :
    (changeLease f k v l).attention =
      if v.collects v.leases[l] k ∧ v.leases[l].notices = 0 then v.attention ++ [l] else v.attention := by
  unfold changeLease
  rw [Lsv.addNotice_attention, Lsv.setLease_leases, upd_get_self]
  rfl

/-- Nothing else of the tables changes. -/
theorem changeLease_frame (f : Lease → LeaseState) (k : Notice) (v : Lsv) (l : LeaseNo) :
    changeLease f k v l =
      { v with leases := (changeLease f k v l).leases, attention := (changeLease f k v l).attention } := by
  unfold changeLease Lsv.addNotice
  dsimp only
  split <;> rfl

end Sys2Proof.Machine
end

