-- ==== Sys2Proof/Laws/Scope.lean ====
section
/-! SUPPORT. What the writes of CMD can do: the codes of the catalogue, ABORT and SOFT_RESET with BUSY 1. -/

namespace Sys2Proof.Machine

/-! ### The codes of CMD (R174) -/

/-- A listed code names its command. -/
theorem commandOf_listed {n : Nat} {c : HostCmd} (h : (n, c) ∈ tableCodes ++ partCodes) :
    commandOf (BitVec.ofNat 16 n) = some c := by
  have hs : ∀ x ∈ tableCodes ++ partCodes, commandOf (BitVec.ofNat 16 x.1) = some x.2 := by decide
  exact hs (n, c) h

/-- Every command of the catalogue has a code. -/
theorem commandOf_onto (c : HostCmd) : ∃ w : Word, commandOf w = some c := by
  have hs : ∃ x ∈ tableCodes ++ partCodes, x.2 = c := by cases c <;> decide
  obtain ⟨⟨n, d⟩, hx, rfl⟩ := hs
  exact ⟨BitVec.ofNat 16 n, commandOf_listed hx⟩

theorem namesCommand_iff (w : Word) : namesCommand w = true ↔ ∃ c, commandOf w = some c := by
  unfold namesCommand
  exact Option.isSome_iff_exists

/-! ### RETIRE_SCOPE and the commands that stop it (R171, R182) -/

/-- The event of a SOFT_RESET can be taken while one that waits for no ending is in progress. -/
theorem State.resetReady_iff (s : State) :
    s.resetReady = true ↔ s.cpt.inProgress = some .softReset ∧ s.cpt.walker.resetWaits = false := by
  unfold State.resetReady
  simp

theorem State.walkInProgress_iff (s : State) : s.walkInProgress = true ↔ s.cpt.inProgress = some .retireScope := by
  unfold State.walkInProgress
  simp

/-- ABORT with BUSY 1 touches the walker's abort, or COLLIDE. -/
theorem State.abortBusy_frame (s : State) :
    s.abortBusy = { s with cpt := { s.cpt with
      walker := { s.cpt.walker with abort := s.walkInProgress || s.cpt.walker.abort }
      collide := !s.walkInProgress || s.cpt.collide } } := by
  unfold State.abortBusy
  cases s.walkInProgress <;> rfl

/-- The write of SOFT_RESET leaves everything but the Command Port. -/
theorem State.writeReset_frame (s : State) : s.writeReset = { s with cpt := s.writeReset.cpt } := by
  unfold State.writeReset
  split
  · split
    · split <;> rfl
    · rfl
  · rfl

/-- With BUSY 0 the write of ABORT is a taking like any other. -/
theorem State.writeAbort_idle {s : State} (h : s.cpt.inProgress = none) : s.writeAbort = s.taken .abort := by
  unfold State.writeAbort State.busy
  rw [h]
  rfl

/-- With BUSY 0 the write of SOFT_RESET is a taking like any other. -/
theorem State.writeReset_idle {s : State} (h : s.cpt.inProgress = none) : s.writeReset = s.takenReset := by
  unfold State.writeReset State.busy
  rw [h]
  rfl

end Sys2Proof.Machine
end

