-- ==== Sys2Proof/Laws/Switching.lean ====
section
/-! SUPPORT. What the operations on frames can do: when a port's Claim Channel is on the line, where a highway frame drives a
slot, what a position leaves, and which slots a lowered offset cuts. -/

namespace Sys2Proof.Machine

/-! ### The Claim Channel on the line (R71, R72) -/

/-- A port has its signalling channel exactly while it is not CLOSED and the format in force in the frame is its own. -/
theorem State.signals_iff (s : State) (p : PortNo) :
    s.signals p = true ↔ s.ports[p].lpi.admin ≠ .closed ∧ s.psw.formats[p] = s.ports[p].lpi.format := by
  unfold State.signals
  simp

/-- A port assembles exactly while it answers, has its signalling channel, and RESET is not asserted. -/
theorem State.assembles_iff (s : State) (p : PortNo) :
    s.assembles p = true ↔ s.pins.reset = false ∧ s.ports[p].lpi.answers = true ∧ s.signals p = true := by
  unfold State.assembles
  simp [and_assoc]

/-- A Claim Channel put back as it stands changes nothing. -/
theorem State.setCch_self (s : State) (p : PortNo) : s.setCch p s.ports[p].cch = s := by
  show { s with ports := upd s.ports p s.ports[p] } = s
  rw [upd_same]

/-- Transmitting changes the port's Claim Channel and nothing else. -/
theorem State.transmitted_frame (s : State) (p : PortNo) : ∃ c : Cch, s.transmitted p = s.setCch p c := by
  unfold State.transmitted
  split
  · exact ⟨_, rfl⟩
  · exact ⟨s.ports[p].cch, (State.setCch_self s p).symm⟩

@[simp] theorem State.transmitted_psw (s : State) (p : PortNo) : (s.transmitted p).psw = s.psw := by
  unfold State.transmitted
  split <;> rfl

@[simp] theorem State.transmitted_pins (s : State) (p : PortNo) : (s.transmitted p).pins = s.pins := by
  unfold State.transmitted
  split <;> rfl

@[simp] theorem State.transmitted_lsv (s : State) (p : PortNo) : (s.transmitted p).lsv = s.lsv := by
  unfold State.transmitted
  split <;> rfl

/-! ### Psw.shift -/

@[simp] theorem Psw.shift_lineStore (w : Psw) : w.shift.lineStore = w.lineRx := rfl

@[simp] theorem Psw.shift_hwStore (w : Psw) : w.shift.hwStore = w.hwRx := rfl

@[simp] theorem Psw.shift_lineRx (w : Psw) : w.shift.lineRx = w.lineRx := rfl

@[simp] theorem Psw.shift_hwRx (w : Psw) : w.shift.hwRx = floated := rfl

@[simp] theorem Psw.shift_lineTx (w : Psw) : w.shift.lineTx = w.lineTx := rfl

@[simp] theorem Psw.shift_begun (w : Psw) : w.shift.begun = none := rfl

@[simp] theorem Psw.shift_begunBefore (w : Psw) : w.shift.begunBefore = w.begun := rfl

@[simp] theorem Psw.shift_begunEarlier (w : Psw) : w.shift.begunEarlier = w.begunBefore := rfl

@[simp] theorem Psw.shift_carried (w : Psw) : w.shift.carried = Vector.replicate 4 false := rfl

/-! ### Where a frame drives (R133, R135) -/

/-- A frame drives `x` at a bit time exactly when a slot of it with content `x` stands there. -/
theorem HighwayFrame.drives_eq_some (f : HighwayFrame) (age : Nat) (b : BitTime) (x : Byte) :
    f.drives age b = some x ↔
      ∃ sl : SlotNo,
        (∃ i : Fin 8, age * 1024 + b.val = f.start.val + 8 * (f.offset.val + sl.val) + i.val) ∧ f.content[sl] = some x := by
  unfold HighwayFrame.drives
  constructor
  · intro h
    dsimp only at h
    split at h
    case isTrue hh =>
      refine ⟨⟨(age * 1024 + b.val - (f.start.val + 8 * f.offset.val)) / 8, by omega⟩,
        ⟨⟨(age * 1024 + b.val - (f.start.val + 8 * f.offset.val)) % 8, by omega⟩, ?_⟩, h⟩
      simp only
      omega
    case isFalse => cases h
  · rintro ⟨sl, ⟨i, hi⟩, hc⟩
    dsimp only
    rw [dif_pos (by omega)]
    have he : (age * 1024 + b.val - (f.start.val + 8 * f.offset.val)) / 8 = sl.val := by omega
    simp only [he]
    exact hc

/-- The slots that a lowered offset cuts (R141). -/
theorem HighwayFrame.cutBy_iff (f : HighwayFrame) (offset : Fin 128) (sl : SlotNo) :
    f.cutBy offset sl = true ↔ 128 + offset.val ≤ f.offset.val + sl.val := by
  unfold HighwayFrame.cutBy
  exact decide_eq_true_iff

/-- A cut frame keeps its place, and the content of the slots that are not cut. -/
theorem HighwayFrame.cut_content (f : HighwayFrame) (offset : Fin 128) (sl : SlotNo) :
    (f.cut offset).content[sl] = if f.cutBy offset sl then none else f.content[sl] := by
  unfold HighwayFrame.cut
  exact tab_get _ _

/-- An offset that is not lowered cuts nothing. -/
theorem HighwayFrame.cutBy_of_le (f : HighwayFrame) {offset : Fin 128} (h : f.offset ≤ offset) (sl : SlotNo) :
    f.cutBy offset sl = false := by
  unfold HighwayFrame.cutBy
  rw [Fin.le_def] at h
  exact decide_eq_false (by omega)

/-! ### Line frames already carried (R138, R141) -/

/-- What a line frame carried before the pulse sends on one channel after it. -/
theorem Psw.recodedTx_get (w : Psw) (offset : Fin 128) (p : PortNo) (c : ChanNo) :
    (w.recodedTx offset)[p][c] =
      if w.carried[p] then w.recoded offset w.lineSel[p][c] w.lineTx[p][c] else w.lineTx[p][c] := by
  unfold Psw.recodedTx
  rw [tab_get]
  split
  · exact tab_get _ _
  · rfl

/-- Where the new frame cuts no slot, a line frame carried keeps its bytes. -/
theorem Psw.recoded_uncut (w : Psw) {offset : Fin 128} (h : ∀ sl, w.cuts offset sl = false) (sel : LineSel) (sent : Byte) :
    w.recoded offset sel sent = sent := by
  unfold Psw.recoded
  split
  · rfl
  · rfl
  · rw [h]; rfl

/-! ### State.highwayEvent (R130 to R136) -/

/-- A position leaves the HWI as given; of the rest only the Payload Switch and HWY can change. -/
theorem State.highwayEvent_frame (s : State) (h : Hwi) (start : BitTime) (hwIn : Vector Byte 256) :
    s.highwayEvent h start hwIn =
      { s with
        hwi := h
        psw := (s.highwayEvent h start hwIn).psw
        ntu := if s.hwi.changesAligned h then s.ntu.raise .hwy else s.ntu } := by
  unfold State.highwayEvent State.raiseIf
  by_cases ha : h.alignment = .aligned
  · rw [if_pos ha]
    split <;> rfl
  · rw [if_neg ha]
    split <;> rfl

/-- Where the HWI is not ALIGNED after the position, the Payload Switch stays as it is. -/
theorem State.highwayEvent_lost (s : State) {h : Hwi} (ha : h.alignment ≠ .aligned) (start : BitTime)
    (hwIn : Vector Byte 256) : (s.highwayEvent h start hwIn).psw = s.psw := by
  unfold State.highwayEvent State.raiseIf
  rw [if_neg ha]
  split <;> rfl

/-- Where it is ALIGNED, an aligned highway frame begins. -/
theorem State.highwayEvent_aligned (s : State) {h : Hwi} (ha : h.alignment = .aligned) (start : BitTime)
    (hwIn : Vector Byte 256) : (s.highwayEvent h start hwIn).psw = (s.beginHighwayFrame h start hwIn).psw := by
  unfold State.highwayEvent State.raiseIf
  rw [if_pos ha]
  split <;> rfl

end Sys2Proof.Machine
end

