-- ==== Sys2Proof/WellFormed.lean ====
section
/-! DEFINITION. Which commands can be sent at all: the operand restrictions that the types do not carry. -/

namespace Sys2Proof

open Machine in
/-- The operand checks of each row; a row without one has only operands that their types already restrict. -/
def Instr.wellFormed : Instr → Bool
  | .unknownCommand w => !namesCommand w
  | .headerByteInGather _ b => isHeader b
  | .headerByteInHunt _ b => isHeader b
  | .messageComplete _ b => !isHeader b
  | .continuationByteInGather _ b => !isHeader b
  | .leaseRead _ | .leaseFind _ | .leaseCreate _ | .leaseModify _ | .leaseRetire _ | .noticeTake _ => true
  | .slotRead _ | .slotReserve _ | .slotRelease _ | .leaseMove _ | .poolRead _ | .poolSet _ => true
  | .monitorSet _ | .monitorClear _ | .groupRead _ | .groupWrite _ | .listenerRead _ => true
  | .portRead _ | .portSet _ | .meterRead _ | .meterSet _ | .countersRead _ => true
  | .highwayRead _ | .highwaySet _ | .sweepRead _ | .sweepSet _ | .refusalRead _ => true
  | .retireScope _ | .walkVisit | .abort | .walkEnding | .softReset | .collision _ => true
  | .registerWrite _ _ | .istatRead | .istatWrite _ | .ienWrite _ | .serving | .replySent _ | .lineFrame _ _ _ _ _ => true
  | .frameStart | .committedRefill _ | .excessRefill _ | .faultAsserted _ | .faultCleared _ => true
  | .holdExpiry _ | .recoveryExpiry _ | .sweepTick | .lost _ | .quarantinePhase | .guardExpiry _ => true
  | .sweepVisit | .leaseExpiry | .highwayPulse _ _ | .pulseMissing _ | .holdAsserted | .holdReleased => true
  | .resetAsserted | .resetReleased => true

end Sys2Proof
end

