-- ==== Sys2Proof/Tests/Slice0.lean ====
section
/-! SUPPORT. Tests: ill-formed commands, bytes and words of the spec's worked sequences, and for each obligation a state and
operands that meet its hypotheses, clause by clause. -/

namespace Sys2Proof.Tests

open Sys2Proof.Machine Sys2Proof.Spec

/-! ### Ill-formed commands are refused -/

theorem test_illformed_unknown : Instr.wellFormed (.unknownCommand 0x0001) = false := by decide
theorem test_wellformed_unknown : Instr.wellFormed (.unknownCommand 0x0007) = true ∧
    Instr.wellFormed (.unknownCommand 0x0101) = true := by decide
theorem test_illformed_hunt : Instr.wellFormed (.headerByteInHunt 0 0x7F) = false := by decide
theorem test_illformed_gather : Instr.wellFormed (.headerByteInGather 0 0x00) = false := by decide
theorem test_illformed_fourth : Instr.wellFormed (.messageComplete 0 0x80) = false := by decide
theorem test_illformed_continuation : Instr.wellFormed (.continuationByteInGather 0 0xFF) = false := by decide

/-! ### States the tests share -/

/-- The state after reset with the argument registers filled. -/
def host (a0 a1 a2 a3 : Word) (s : State) : State := { s with cpt := { s.cpt with args := #v[a0, a1, a2, a3] } }

/-- The state with a command in progress, on the arguments as they stand. -/
def busy (c : HostCmd) (s : State) : State :=
  { s with cpt := { s.cpt with inProgress := some c, latched := s.cpt.args } }

/-- The Line Port Interface of an open port. -/
def openLpi : Lpi := { Lpi.initial with admin := .opened, faultIn := false }

/-- The state with the Line Port Interface of port 0 replaced. -/
def port0 (l : Lpi) (s : State) : State := withPort s 0 { s.ports[(0 : PortNo)] with lpi := l }

/-- The state with the Claim Channel of port 0 replaced. -/
def channel0 (c : Cch) (s : State) : State := withPort s 0 { s.ports[(0 : PortNo)] with cch := c }

/-- Port 0 open, everything else as after reset. -/
def open0 : State := port0 openLpi State.reset

/-- A live lease of port 0, channel 1, group 0. -/
def live0 : Lease := { Lease.cleared with state := .active, channel := 1, slot := some 5, tag := some 3 }

/-- The state with record 0 replaced. -/
def record0 (r : Lease) (s : State) : State := withLease s 0 r

/-- The state with slot 5 replaced. -/
def slot5 (r : SlotRec) (s : State) : State := withSlot s 5 r

/-- Slot 5 held by lease 0. -/
def held5 : SlotRec := { state := .held, home := some .pool, holder := some 0, guard := none }

/-- The tap in ON with target slot 5. -/
def tapped (s : State) : State :=
  withTables s { s.lsv with tap := { state := .on, source := some 0, target := some 5, endReason := none } }

/-- The state with group 0 replaced. -/
def group0 (g : Group) (s : State) : State := withTables s { s.lsv with groups := upd s.lsv.groups 0 g }

/-- Port 0, open, is about to be served message `m`. -/
def serving (m : Message) (s : State) : State :=
  { channel0 { Cch.initial with bufA := some m } (port0 openLpi s) with cpr := { pointer := 3, requested := true } }

/-- A message of kind `k` and lease kind field `lk` for channel 1 and group 0. -/
def message (k : Fin 8) (lk : Fin 4) : Message :=
  { kind := k, tag := 3, lkind := lk, channel := 1, cls := 2, group := 0, check := 0 }

/-! ### Bytes and words of the worked sequences -/

theorem test_claim_bytes_pass_check : checkPasses 0x93 0x05 0x40 0x28 = true := by decide
theorem test_claim_bytes_read : messageOf 0x93 0x05 0x40 0x28 =
    { kind := 1, tag := 3, lkind := 0, channel := 5, cls := 2, group := 0, check := 0x28 } := by decide
theorem test_grant_bytes :
    let r : Reply := { kind := .grant, tag := 3, second := 0, channel := 5, third := 0 }
    [r.byte 0, r.byte 1, r.byte 2, r.byte 3] = [0x93, 0x05, 0x00, 0x68] := by decide
theorem test_notice_words :
    let r : Lease := { Lease.cleared with state := .retired, port := 1, cls := 1, channel := 1, tag := some 9, notices := 8,
                                          cause := some .lineRelease }
    [r.word0, r.word1, r.noticeWord2 1, r.word3] = [0x80A1, 0xFF00, 0x3201, 0x0108] := by decide
theorem test_notice_words_by_field :
    let r : Lease := { Lease.cleared with state := .retired, port := 1, cls := 1, channel := 1, tag := some 9, notices := 8,
                                          cause := some .lineRelease }
    [leaseWord r, slotWord r, groupWord r] = [0x80A1, 0xFF00, 0x0108] := by decide
theorem test_identification : State.reset.readWord 12 = 0x4128 := by decide
theorem test_decode_spells_nothing : ∀ n w, decodeTableWord n w = none := fun _ _ => rfl

/-! ### Host commands: hypotheses of their statements -/

theorem wit_ready : ∀ c : HostCmd, Ready c .whole State.reset ∧ Ready c .take (busy c State.reset) :=
  fun _ => ⟨⟨rfl, rfl⟩, rfl, rfl⟩

theorem wit_StepTakesFront : State.reset.pending = [] := rfl

theorem wit_WriteOfCommand :
    State.reset.cpt.inProgress = none ∧ (busy .leaseRead State.reset).cpt.inProgress ≠ none ∧
    (busy .retireScope State.reset).cpt.inProgress = some .retireScope ∧ (0x01 : Word) ≠ 0x31 ∧ (0x01 : Word) ≠ 0x3E ∧
    HostCmd.leaseRead ≠ .abort ∧ HostCmd.leaseRead ≠ .softReset ∧ HostCmd.abort ≠ .retireScope ∧
    State.reset.cpt.inProgress ≠ some .leaseRead ∧ State.reset.cpt.walker.starting = false := by decide

theorem wit_LeaseRead :
    arg .whole (host 127 0 0 0 State.reset) 0 = (127 : LeaseNo).val ∧ 127 < arg .whole (host 128 0 0 0 State.reset) 0 := by
  decide

theorem wit_LeaseFind :
    3 < argHigh .whole (host 0x0400 0 0 0 State.reset) 0 ∧ 31 < argLow .whole (host 0x0020 0 0 0 State.reset) 0 ∧
    (let s := host 0x031F 0 0 0 State.reset
     argHigh .whole s 0 = (3 : PortNo).val ∧ argLow .whole s 0 = (31 : ChanNo).val ∧
     s.lsv.chanMap[(3 : PortNo)][(31 : ChanNo)] = none) ∧
    (let s := withTables State.reset (State.reset.lsv.bind 0 1 (some 0))
     s.lsv.chanMap[(0 : PortNo)][(1 : ChanNo)] = some 0) ∧
    State.reset.ports[(0 : PortNo)].lpi.format.bearer 16 = false := by decide

theorem wit_LeaseModify :
    127 < arg .whole (host 128 0 0 0 State.reset) 0 ∧ ¬ Live State.reset.lsv.leases[(0 : LeaseNo)] ∧
    (let s := host 0 0x0301 0x0155 0 (record0 live0 State.reset)
     arg .whole s 0 = (0 : LeaseNo).val ∧ Live s.lsv.leases[(0 : LeaseNo)] ∧
     argHigh .whole s 1 = (3 : ClassNo).val ∧ argHigh .whole s 2 ≤ 1) ∧
    3 < argHigh .whole (host 0 0x0400 0 0 State.reset) 1 ∧ 1 < argHigh .whole (host 0 0 0x0200 0 State.reset) 2 := by decide

theorem wit_LeaseRetire :
    (let s := record0 live0 State.reset
     Live s.lsv.leases[(0 : LeaseNo)] ∧ argBit .whole s 1 0 = false ∧ argBit .whole (host 0 1 0 0 s) 1 0 = true) ∧
    (record0 { live0 with state := .retired } State.reset).lsv.leases[(0 : LeaseNo)].state = .retired ∧
    State.reset.lsv.leases[(0 : LeaseNo)].state = .free := by decide

theorem wit_NoticeTake :
    State.reset.lsv.attention = [] ∧
    (withTables State.reset { State.reset.lsv with attention := [0] }).lsv.attention = 0 :: [] := by decide

theorem wit_LeaseMove :
    127 < arg .whole (host 0 128 0 0 State.reset) 1 ∧ arg .whole (host 0 128 0 0 State.reset) 1 ≠ 0xFF ∧
    arg .whole (host 0 127 0 0 State.reset) 1 ≤ 127 ∧ arg .whole (host 0 0xFF 0 0 State.reset) 1 = 0xFF ∧
    (record0 { live0 with kind := .listen } State.reset).lsv.leases[(0 : LeaseNo)].kind = .listen ∧
    (record0 live0 State.reset).lsv.leases[(0 : LeaseNo)].kind ≠ .listen ∧
    (withTables State.reset { State.reset.lsv with freeList := [] }).lsv.freeList = [] ∧
    arg .whole (host 0 5 0 0 State.reset) 1 = (5 : SlotNo).val ∧
    (slot5 { held5 with state := .quarantine } State.reset).lsv.slots[(5 : SlotNo)].state = .quarantine ∧
    (slot5 held5 State.reset).lsv.slots[(5 : SlotNo)].state = .held ∧
    State.reset.lsv.freeList.head? = some 0 ∧ State.reset.lsv.slots[(0 : SlotNo)].state = .free ∧
    (let s := record0 live0 (slot5 held5 State.reset)
     s.lsv.leases[(0 : LeaseNo)].slot = some 5 ∧ s.lsv.slots[(5 : SlotNo)].state = .held ∧
     s.lsv.slots[(5 : SlotNo)].home.isSome = true) ∧
    (slot5 SlotRec.reserved State.reset).lsv.slots[(5 : SlotNo)].state = .reserved := by decide

theorem wit_tap_target : TapTarget (tapped State.reset).lsv 5 ∧ ¬ TapTarget State.reset.lsv 5 :=
  ⟨⟨rfl, rfl⟩, fun h => nomatch h.1⟩

theorem wit_LeaseCreate_refused :
    3 < argHigh .whole (host 0x0400 0 0 0 State.reset) 0 ∧
    State.reset.ports[(0 : PortNo)].lpi.admin = .closed ∧ open0.ports[(0 : PortNo)].lpi.admin ≠ .closed ∧
    31 < argLow .whole (host 0x0020 0 0 0 open0) 0 ∧ argLow .whole (host 0x0010 0 0 0 open0) 0 = (16 : ChanNo).val ∧
    open0.ports[(0 : PortNo)].lpi.format.bearer 16 = false ∧ 2 < argHigh .whole (host 1 0x0300 0 0 open0) 1 ∧
    31 < argLow .whole (host 1 0x0020 0 0 open0) 1 ∧ 3 < argHigh .whole (host 1 0 0x0400 0 open0) 2 ∧
    127 < argLow .whole (host 1 0 0x0080 0 open0) 2 ∧ argLow .whole (host 1 0 0x0080 0 open0) 2 ≠ 0xFF := by decide

/-- A request for a DUPLEX lease on slot 5, and one for a LISTEN lease. -/
def askSlot : CreateArgs :=
  { kind := .duplex, port := 0, channel := 1, group := 0, cls := 3, slot := some (.named 5), pinned := true, code := some 0x55 }
def askListen : CreateArgs := { askSlot with kind := .listen, slot := none, pinned := false, code := none }

theorem wit_LeaseCreate_asks :
    Asks .whole (host 0x0001 0x0000 0x0305 0x8155 open0) askSlot ∧ Asks .whole (host 0x0001 0x0200 0x0305 0 open0) askListen := by
  constructor
  · refine ⟨?_, ?_, ?_, ?_, ?_, ?_, ?_, ?_, ?_, ?_, ?_⟩
    · decide
    · decide
    · decide
    · decide
    · decide
    · decide
    · decide
    · decide
    · intro; exact Or.inr ⟨5, by decide, rfl⟩
    · decide
    · decide
  · refine ⟨?_, ?_, ?_, ?_, ?_, ?_, ?_, ?_, ?_, ?_, ?_⟩
    · decide
    · decide
    · decide
    · decide
    · decide
    · decide
    · decide
    · decide
    · intro h; exact absurd rfl h
    · decide
    · decide

theorem wit_LeaseCreate_passes : createFails open0.lsv askSlot = none ∧ LowestFree open0.lsv 0 :=
  ⟨by decide, rfl, fun _ h => absurd h (Fin.not_lt_zero _)⟩

theorem wit_LeaseCreate_fails :
    createFails (open0.lsv.bind 0 1 (some 0)) askSlot = some .inUse ∧
    createFails (slot5 held5 open0).lsv askSlot = some .inUse ∧ createFails (tapped open0).lsv askSlot = some .tapBusy ∧
    createFails (slot5 { held5 with state := .quarantine } open0).lsv askSlot = some .slotGuard ∧
    createFails (group0 { Group.initial 0 with listenerCap := 0 } open0).lsv askListen = some .groupFull ∧
    createFails (group0 { Group.initial 0 with talker := some 1 } open0).lsv { askSlot with kind := .talk } =
      some .talkBusy := by decide

theorem wit_Creation :
    (let ls := (group0 { Group.initial 0 with listeners := [1, 2] } State.reset).lsv.groups[(0 : GroupNo)].listeners
     ls.Nodup ∧ (0 : LeaseNo) ∉ ls) ∧
    (0 : LeaseNo) ∉ State.reset.lsv.groups[(0 : GroupNo)].listeners ∧ State.reset.lsv.slots[(5 : SlotNo)].state = .free ∧
    (slot5 SlotRec.reserved State.reset).lsv.slots[(5 : SlotNo)].state = .reserved := by decide

theorem wit_Retirement :
    (let v := (withLease (group0 { Group.initial 0 with talker := some 0, listeners := [1] } State.reset) 0
        { live0 with kind := .talk }).lsv
     v.leases[(0 : LeaseNo)].kind = .talk ∧ (0 : LeaseNo) ∉ v.groups[(0 : GroupNo)].listeners ∧
     v.groups[(0 : GroupNo)].listeners.Nodup) ∧
    (let v := (record0 live0 (slot5 held5 (tapped State.reset))).lsv
     v.leases[(0 : LeaseNo)].slot = some 5 ∧ v.slots[(5 : SlotNo)].home = some .pool ∧ v.guardSetting ≠ 0 ∧
     v.tap.state = .on ∧ v.tap.source = some 0 ∧ (0 : LeaseNo) ∉ v.groups[(0 : GroupNo)].listeners) ∧
    (withTables State.reset { State.reset.lsv with guardSetting := 0 }).lsv.guardSetting = 0 ∧
    (slot5 { held5 with home := some .reserved } State.reset).lsv.slots[(5 : SlotNo)].home = some .reserved := by decide

theorem wit_Listeners : ((group0 { Group.initial 0 with listeners := [0, 1] } State.reset).lsv.groups[(0 : GroupNo)]).listeners.Nodup := by
  decide

theorem wit_Replies :
    State.reset.ports[(0 : PortNo)].lpi.admin = .closed ∧ open0.ports[(0 : PortNo)].lpi.admin ≠ .closed ∧
    open0.ports[(0 : PortNo)].lpi.condition = .normal ∧
    (port0 { openLpi with condition := .faulted } State.reset).ports[(0 : PortNo)].lpi.condition = .faulted ∧
    open0.ports[(0 : PortNo)].cch.queue.length < 7 ∧
    (let r : Reply := { kind := .grant, tag := 0, second := 0, channel := 1, third := 0 }
     8 ≤ (channel0 { Cch.initial with queue := List.replicate 8 r } open0).ports[(0 : PortNo)].cch.queue.length) := by decide

theorem wit_Slots :
    arg .whole (host 5 0 0 0 State.reset) 0 = (5 : SlotNo).val ∧ 127 < arg .whole (host 128 0 0 0 State.reset) 0 ∧
    State.reset.lsv.guardSetting ≠ 0 ∧ (slot5 held5 State.reset).lsv.slots[(5 : SlotNo)].state = .held := by decide

theorem wit_Pool :
    (let s := host 2 127 0 0 State.reset
     arg .whole s 0 = 2 ∧ arg .whole s 1 ≤ 127 ∧ s.lsv.freeList[arg .whole s 1]? = some 127) ∧
    (let s := host 3 0 0 0 (withTables State.reset { State.reset.lsv with quarantine := [5] })
     arg .whole s 0 = 3 ∧ s.lsv.quarantine[arg .whole s 1]? = some 5) ∧
    (let s := host 3 0 0 0 State.reset
     s.lsv.quarantine.length ≤ arg .whole s 1) ∧
    3 < arg .whole (host 4 0 0 0 State.reset) 0 ∧
    (let s := host 15 0x7F7F 0x7F7F 0 State.reset
     argLow .whole s 0 ≤ 15 ∧ argHigh .whole s 1 ≤ 127 ∧ argLow .whole s 2 ≤ 127) ∧
    ¬ argLow .whole (host 16 0 0 0 State.reset) 0 ≤ 15 := by decide

theorem wit_Monitor :
    (tapped State.reset).lsv.tap.state = .on ∧ State.reset.lsv.tap.state ≠ .on ∧
    Live (record0 live0 State.reset).lsv.leases[(0 : LeaseNo)] ∧ State.reset.lsv.slots[(5 : SlotNo)].state ≠ .reserved := by
  decide

theorem wit_Group :
    31 < arg .whole (host 32 0 0 0 State.reset) 0 ∧ arg .whole (host 31 0 0 0 State.reset) 0 = (31 : GroupNo).val ∧
    (let s := host 0x1F00 0x107F 0 0 State.reset
     argHigh .whole s 0 = (31 : GroupNo).val ∧ argHigh .whole s 1 ≤ 16 ∧ argLow .whole s 1 ≤ 127 ∧
     argBit .whole s 2 0 = false) ∧
    16 < argHigh .whole (host 0 0x1100 0 0 State.reset) 1 ∧ 127 < argLow .whole (host 0 0x0080 0 0 State.reset) 1 ∧
    (record0 live0 State.reset).lsv.leases[(0 : LeaseNo)].group = 0 ∧
    15 < arg .whole (host 0 16 0 0 State.reset) 1 ∧
    (let s := group0 { Group.initial 0 with listeners := [0] } State.reset
     s.lsv.groups[(0 : GroupNo)].listeners[arg .whole s 1]? = some 0) := by decide

theorem wit_Port :
    3 < arg .whole (host 4 0 0 0 State.reset) 0 ∧
    (let s := host 0x0302 0x0155 0x01FF 0x00FF State.reset
     argHigh .whole s 0 = (3 : PortNo).val ∧ argLow .whole s 0 = code [Admin.closed, .drain, .opened] .opened ∧
     argHigh .whole s 1 = code [Format.f32, .f24] .f24 ∧ argHigh .whole s 2 ≠ 0 ∧
     s.ports[(3 : PortNo)].lpi.admin = .closed ∧ s.ports[(3 : PortNo)].lpi.condition = .normal ∧
     Format.f24 ≠ s.ports[(3 : PortNo)].lpi.format) ∧
    2 < argLow .whole (host 0x0003 0 0x0100 0 State.reset) 0 ∧ argHigh .whole (host 0 0 0 0 State.reset) 2 = 0 ∧
    (record0 live0 open0).lsv.leases[(0 : LeaseNo)].port = 0 := by decide

theorem wit_Meter :
    (let s := host 0x030F 0x0001 0xFFFF 0x0F7F State.reset
     argHigh .whole s 0 = (3 : PortNo).val ∧ arg .whole s 1 ≠ 0 ∧ argLow .whole s 0 ≠ 0 ∧ argLow .whole s 0 ≤ 15 ∧
     argHigh .whole s 3 ≤ 15 ∧ argLow .whole s 3 ≤ 127) ∧
    arg .whole (host 0x0001 0 0 0 State.reset) 1 = 0 ∧ 15 < argLow .whole (host 0x0010 1 0 0 State.reset) 0 ∧
    15 < argHigh .whole (host 1 1 0 0x1000 State.reset) 3 ∧ 127 < argLow .whole (host 1 1 0 0x0080 State.reset) 3 ∧
    1 < arg .whole (host 0 2 0 0 State.reset) 1 ∧ arg .whole (host 3 1 0 0 State.reset) 1 = 1 := by decide

theorem wit_Timing :
    127 < arg .whole (host 128 0 0 0 State.reset) 0 ∧ 255 < arg .whole (host 0 256 0 0 State.reset) 1 ∧
    (let s := host 127 255 0 0 State.reset
     arg .whole s 0 = (127 : Fin 128).val ∧ arg .whole s 1 ≤ 255) ∧
    1 < arg .whole (host 2 0 0 0 State.reset) 0 ∧
    (let s := host 0x8001 1 0 0 State.reset
     argHigh .whole s 0 ∈ [1, 2, 4, 8, 16, 32, 64, 128] ∧ arg .whole s 1 ≠ 0 ∧ argLow .whole s 0 ≤ 1) ∧
    argHigh .whole (host 0x0301 1 0 0 State.reset) 0 ∉ [1, 2, 4, 8, 16, 32, 64, 128] := by decide

/-! ### The walk, resets and the window -/

/-- A walk in flight, its next visit to record `n`. -/
def walking (sc : Scope) (n : Nat) (s : State) : State :=
  withWalker (busy .retireScope s) { Walker.initial with scope := some sc, position := n }

/-- The scope of port 0. -/
def scope0 : Scope := { reach := .port 0, pinned := false, host := false }

theorem wit_RetireScope :
    (2 < argHigh .whole (host 0x0300 0 0 0 State.reset) 0) ∧ 3 < argLow .whole (host 0x0004 0 0 0 State.reset) 0 ∧
    31 < argLow .whole (host 0x0120 0 0 0 State.reset) 0 ∧ NamesScope .whole (host 0x0000 0 0 0 State.reset) scope0 ∧
    NamesScope .whole (host 0x011F 3 0 0 State.reset) { reach := .group 31, pinned := true, host := true } ∧
    NamesScope .whole (host 0x0200 0 0 0 State.reset) { scope0 with reach := .all } :=
  ⟨by decide, by decide, by decide, ⟨⟨rfl, rfl⟩, rfl, rfl⟩, ⟨⟨rfl, rfl⟩, rfl, rfl⟩, rfl, rfl, rfl⟩

theorem wit_WalkVisit :
    (let s := walking scope0 127 (record0 live0 State.reset)
     s.cpt.walker.abort = false ∧ s.cpt.walker.scope = some scope0 ∧ s.cpt.walker.position = (127 : LeaseNo).val ∧
     s.cpt.inProgress ≠ some .softReset) ∧
    (let s := withWalker (busy .softReset (record0 live0 State.reset))
        { Walker.initial with scope := some scope0, position := 127 }
     s.cpt.inProgress = some .softReset ∧ s.cpt.walker.resetWaits = false) ∧
    InScope scope0 live0 ∧ Live live0 ∧ ¬ Live Lease.cleared :=
  ⟨by decide, by decide, ⟨rfl, Or.inl rfl, Or.inl rfl⟩, by decide, by decide⟩

theorem wit_Abort :
    (busy .retireScope State.reset).cpt.walker.resetWaits = false ∧
    (let s := withWalker (walking scope0 5 State.reset) { Walker.initial with scope := some scope0, abort := true }
     s.cpt.walker.scope.isSome = true ∧ s.cpt.walker.abort = true ∧ s.cpt.inProgress ≠ some .softReset) ∧
    (let s := withWalker (busy .softReset State.reset)
        { Walker.initial with scope := some scope0, starting := true, abort := true, resetWaits := true }
     s.cpt.walker.starting = true ∧ s.cpt.walker.abort = true ∧ s.cpt.walker.resetWaits = true ∧
     s.cpt.walker.scope.isSome = true) ∧
    (busy .softReset State.reset).cpt.inProgress = some .softReset ∧
    (withWalker State.reset { Walker.initial with starting := true, abort := true }).cpt.walker.starting = true := by decide

theorem wit_SoftReset :
    arg .whole State.reset 0 = 0 ∧ arg .whole (host 1 0 0 0 State.reset) 0 = 1 ∧
    1 < arg .whole (host 2 0 0 0 State.reset) 0 ∧ 1 < arg .take (busy .softReset (host 2 0 0 0 State.reset)) 0 ∧
    (busy .softReset State.reset).cpt.walker.resetWaits = false ∧
    (busy .retireScope State.reset).cpt.inProgress = some .retireScope ∧
    arg .write State.reset 0 ≤ 1 ∧ 1 < arg .write (host 2 0 0 0 State.reset) 0 ∧
    (let s := withWalker (busy .softReset State.reset) { Walker.initial with resetWaits := true }
     s.cpt.inProgress = some .softReset ∧ s.cpt.walker.resetWaits = true) := by decide

theorem wit_Window :
    State.reset.pins.reset = false ∧ (4 : Fin 16).val = (3 : Fin 4).val + 1 ∧ 5 ≤ (5 : Fin 16).val ∧ (9 : Fin 16).val ≤ 9 ∧
    12 ≤ (15 : Fin 16).val ∧ (8 : Fin 16).val = (3 : Fin 4).val + 5 ∧ State.reset.held.pins.reset = true ∧
    (0x01, HostCmd.leaseRead) ∈ catalogue ∧ (0x3E, HostCmd.softReset) ∈ catalogue ∧
    (∀ e ∈ catalogue, (0x07 : Word).toNat ≠ e.1) ∧ (∀ e ∈ catalogue, (0x0101 : Word).toNat ≠ e.1) := by decide

/-- A command's write by its code leaves the part as its own row does. -/
theorem test_command_written_by_code :
    (registerWriteStep 0 0x0001 State.reset).cpt.inProgress = some .leaseRead ∧
    (registerWriteStep 0 0x0101 State.reset).cpt.last = .unknown := by decide

/-- A SOFT_RESET written apart from its event: another write collides until the row takes it. -/
theorem test_soft_reset_written_then_taken :
    (registerWriteStep 0 0x003E State.reset).cpt.inProgress = some .softReset ∧
    (registerWriteStep 0 0x003E (registerWriteStep 0 0x003E State.reset)).cpt.collide = true ∧
    (softResetStep (registerWriteStep 0 0x003E State.reset)).cpt.inProgress = none := by decide

/-! ### The Claim Channel and servings -/

/-- Port 0 opened with format F24 within the frame that F32 is in force in. -/
def reformatted0 : State := port0 { openLpi with format := .f24 } State.reset

theorem wit_Bytes : Assembles open0 0 ∧ ¬ Assembles State.reset 0 ∧ ¬ Assembles reformatted0 0 ∧ Marked 0x80 ∧ ¬ Marked 0x7F :=
  ⟨⟨rfl, ⟨by decide, rfl⟩, Or.inl rfl⟩, fun h => absurd rfl h.2.1.1, fun h => absurd h.2.1.2 (by decide), rfl,
    by unfold Marked; decide⟩

/-- The port assembles from the frame on in which its format is in force (R71, R78; log 25). -/
theorem test_reformatted_port_assembles_next_frame :
    headerInHuntStep 0 0x93 reformatted0 = reformatted0 ∧
    (headerInHuntStep 0 0x93 (frameStartStep reformatted0)).ports[(0 : PortNo)].cch.assembly = .gather1 0x93 := by
  constructor
  · rfl
  · rfl

theorem wit_MessageComplete :
    (let s := channel0 { Cch.initial with assembly := .gather3 0x93 0x05 0x40 } open0
     s.ports[(0 : PortNo)].cch.assembly = .gather3 0x93 0x05 0x40 ∧ s.ports[(0 : PortNo)].cch.bufA = none) ∧
    ChecksOut 0x93 0x05 0x40 0x28 ∧ ¬ ChecksOut 0x93 0x05 0x40 0x29 ∧
    Carries { kind := 1, tag := 3, lkind := 0, channel := 5, cls := 2, group := 0, check := 0x28 } 0x93 0x05 0x40 0x28 := by
  unfold ChecksOut Carries
  decide

theorem wit_ReplySent :
    let r : Reply := { kind := .grant, tag := 3, second := 0, channel := 5, third := 0 }
    let s := channel0 { Cch.initial with queue := [r], sent := 3 } open0
    Signals s 0 ∧ s.ports[(0 : PortNo)].cch.queue = r :: [] ∧ s.ports[(0 : PortNo)].cch.sent = 3 ∧
    ¬ Signals reformatted0 0 ∧ open0.ports[(0 : PortNo)].cch.queue = [] ∧ open0.ports[(0 : PortNo)].cch.sent ≠ 3 := by
  unfold Signals
  decide

theorem wit_Serves (m : Message) : Serves (serving m State.reset) 0 m :=
  ⟨rfl, rfl, rfl, 0, (by show (0 : PortNo) = 3 + 0 + 1; decide), ⟨rfl, Nat.zero_le 6⟩, fun _ h => absurd h (Fin.not_lt_zero _)⟩

theorem wit_ServingTurn : ∀ p : PortNo, ¬ Eligible State.reset p := by
  intro p h
  fin_cases p <;> exact absurd h.1 (by decide)

/-- A serving of a message on a channel bound to lease 0. -/
def bound (r : Lease) (m : Message) : State :=
  serving m (withTables State.reset ((record0 r State.reset).lsv.bind 0 1 (some 0)))

theorem wit_Refresh :
    (message 3 0).kind = 3 ∧ (bound live0 (message 3 0)).lsv.chanMap[(0 : PortNo)][(message 3 0).channel] = some 0 ∧
    (bound live0 (message 3 0)).lsv.leases[(0 : LeaseNo)].slot = some 5 ∧
    (serving (message 3 0) State.reset).lsv.chanMap[(0 : PortNo)][(message 3 0).channel] = none := by decide

theorem wit_Refused :
    (message 5 0).kind ∉ [(1 : Fin 8), 2, 3, 4] ∧
    Spec.earlyRefusal (bound live0 (message 1 0)) 0 (message 1 0) = some .inUse ∧
    Spec.earlyRefusal (serving (message 1 3) State.reset) 0 (message 1 3) = some .badKind ∧
    Spec.earlyRefusal (serving (message 1 0) State.reset) 0 (message 1 0) = none ∧
    0 < (serving (message 1 0) State.reset).ports[(0 : PortNo)].cmt.committed := by decide

theorem wit_Metered (lk : Fin 4) (h : lk ≠ 3) :
    Metered (serving (message 1 lk) State.reset) 0 (message 1 lk) 0 0 { Cmt.initial with committed := 3 } := by
  refine ⟨?_, ⟨rfl, fun _ h => absurd h (Fin.not_lt_zero _)⟩, Or.inl ⟨?_, rfl, rfl⟩⟩
  · revert lk; decide
  · show 0 < 4; decide

theorem wit_Granted :
    State.reset.lsv.freeList = 0 :: State.reset.lsv.freeList.tail ∧
    State.reset.lsv.floors[(2 : ClassNo)] + 0 < State.reset.lsv.freeList.length ∧
    State.reset.lsv.groups[(0 : GroupNo)].talker = none := ⟨rfl, by simp [State.reset, Lsv.initial], by decide⟩

/-- Group 0 has talker 1, of class 0, on slot 5. -/
def talking : State :=
  withLease (group0 { Group.initial 0 with talker := some 1 } State.reset) 1 { live0 with kind := .talk, channel := 2 }

theorem wit_Preempts :
    Metered (serving (message 1 1) talking) 0 (message 1 1) 0 0 { Cmt.initial with committed := 3 } ∧
    talking.lsv.groups[(0 : GroupNo)].talker = some 1 ∧ talking.lsv.leases[(1 : LeaseNo)].origin = .signaled ∧
    talking.lsv.leases[(1 : LeaseNo)].pinned = false ∧ talking.lsv.leases[(1 : LeaseNo)].cls < (message 1 1).cls ∧
    talking.lsv.leases[(1 : LeaseNo)].slot = some 5 := by
  refine ⟨⟨by decide, ⟨rfl, fun _ h => absurd h (Fin.not_lt_zero _)⟩, Or.inl ⟨by decide, rfl, rfl⟩⟩, ?_⟩
  decide

/-- Group 0 has one listener, lease 1 of class 0, and is full. -/
def listening : State :=
  withLease (group0 { Group.initial 0 with listeners := [1], listenerCap := 1 } State.reset) 1
    { live0 with kind := .listen, state := .waiting, channel := 2, slot := none }

/-- Any group and record of the state `listening`. -/
theorem listening_group (g : GroupNo) :
    listening.lsv.groups[g] = if g = 0 then { Group.initial 0 with listeners := [1], listenerCap := 1 } else Group.initial g := by
  show (upd (tab 32 Group.initial) 0 _)[g] = _
  rw [upd_get, tab_get]
  by_cases h : g = 0
  · rw [if_pos h, if_pos h.symm]
  · rw [if_neg h, if_neg (Ne.symm h)]

theorem listening_lease (l : LeaseNo) :
    listening.lsv.leases[l] =
      if l = 1 then { live0 with kind := .listen, state := .waiting, channel := 2, slot := none } else Lease.cleared := by
  show (upd (Vector.replicate 128 Lease.cleared) 1 _)[l] = _
  rw [upd_get]
  by_cases h : l = 1
  · rw [if_pos h, if_pos h.symm]
  · rw [if_neg h, if_neg (Ne.symm h)]
    simp

theorem wit_Joins_grouped : listening.lsv.Grouped := by
  refine ⟨fun g => ?_, fun g l => ?_, fun g => ?_, fun g => ?_, fun g l => ?_⟩
  · rw [listening_group]; split <;> simp [Group.initial]
  · rw [listening_group, listening_lease]
    by_cases hg : g = 0 <;> by_cases hl : l = 1 <;>
      simp [hg, hl, Group.initial, live0, Lease.cleared, Lease.live, eq_comm]
  · rw [listening_group]; split <;> simp [Group.initial]
  · rw [listening_group]; split <;> simp [Group.initial]
  · rw [listening_group, listening_lease]
    by_cases hg : g = 0 <;> by_cases hl : l = 1 <;>
      simp [hg, hl, Group.initial, live0, Lease.cleared, Lease.live]

theorem wit_Joins :
    Metered (serving (message 1 2) listening) 0 (message 1 2) 0 0 { Cmt.initial with committed := 3 } ∧
    listening.lsv.groups[(0 : GroupNo)].listenerCap ≤ listening.lsv.groups[(0 : GroupNo)].listeners.length ∧
    Victim listening.lsv 0 1 ∧ listening.lsv.leases[(1 : LeaseNo)].cls < (message 1 2).cls ∧
    ListenerAnswer listening.lsv (message 1 2) (answer (message 1 2) .wait 2 0) := by
  refine ⟨⟨by decide, ⟨rfl, fun _ h => absurd h (Fin.not_lt_zero _)⟩, Or.inl ⟨by decide, rfl, rfl⟩⟩, by decide,
    ⟨⟨by decide, rfl, rfl⟩, fun j hj => ?_⟩, by decide, Or.inl ⟨rfl, rfl⟩⟩
  have hj' : j = 1 := List.mem_singleton.mp hj.1
  subst hj'
  exact ⟨le_refl _, fun _ => le_refl _⟩

/-! ### Frames, faults and the sweep -/

theorem wit_Frames :
    (let s := { State.reset with swt := { Swt.initial with running := true } }
     s.swt.running = true ∧ s.pins.hold = false ∧ s.swt.prescalerCount + 1 < s.swt.prescaler) ∧
    (let s := { State.reset with swt := { Swt.initial with running := true, prescalerCount := 127 } }
     s.swt.prescaler ≤ s.swt.prescalerCount + 1) ∧
    (let m := { Cmt.initial with committedDue := 1, excessDue := 1 }
     0 < m.committedDue ∧ 0 < m.excessDue) := by decide

theorem wit_Selects :
    (let s := record0 live0 (slot5 held5 State.reset)
     s.lsv.slots[(5 : SlotNo)].state = .held ∧ s.lsv.slots[(5 : SlotNo)].holder = some 0 ∧
     s.lsv.leases[(0 : LeaseNo)].state = .active) ∧
    (let s := tapped (slot5 SlotRec.reserved (record0 live0 State.reset))
     s.lsv.slots[(5 : SlotNo)].state = .reserved ∧ s.lsv.tap.source = some 0) := by decide

theorem wit_LineFrame_level :
    (let x := { openLpi with expected := some 7 }
     (false || (some 8 : Option Nat).isNone || decide (some 8 ≠ x.expected)) = true ∧ x.faultIn = false ∧
     (false || (some 7 : Option Nat).isNone || decide (some 7 ≠ x.expected)) = false) ∧
    ({ openLpi with faultIn := true } : Lpi).faultIn = true := by decide

theorem wit_LineFrame : byteRow 0 0x93 .hunt (.headerByteInHunt 0 0x93) ∧
    byteRow 0 0x28 (.gather3 0x93 0x05 0x40) (.messageComplete 0 0x28) :=
  ⟨Or.inl ⟨rfl, rfl, rfl⟩, Or.inr (Or.inr (Or.inr ⟨by unfold Marked; decide, ⟨_, _, _, rfl⟩, rfl⟩))⟩

/-- A highway frame begun at bit time 1023 with offset 127. -/
def lateFrame : HighwayFrame := { start := 1023, offset := 127, content := Vector.replicate 128 (some 0x55) }

theorem wit_HighwayOut : Stands lateFrame 2 127 1007 ∧ lateFrame.content[(127 : SlotNo)] = some 0x55 :=
  ⟨⟨0, by decide⟩, by decide⟩

theorem test_last_slot_stands_two_frames_later : lateFrame.drives 2 1007 = some 0x55 := by decide

/-- Channel 1 of port 0 carries highway slot 1, whose sample stands in the store and whose frame began with offset 127. -/
def carrying : State :=
  { State.reset with
    hwi := { Hwi.initial with alignment := .aligned, expected := some 0 }
    psw := { Psw.initial with
      begunBefore := some lateFrame, hwStore := Vector.replicate 128 (some 0x55)
      lineSel := upd resetLineSel 0 (upd resetLineSel[(0 : PortNo)] 1 (.highwayIn 1 0xAA)) } }

/-- A line frame of port 0. -/
def line (s : State) : State := lineFrameStep 0 (Vector.replicate 32 0) false none false s

/-- The line frame of port 0 sends the sample while no pulse has come, and the conditioning code once the pulse has cut the slot,
whichever of the two comes first (R138, R141; log 11). -/
theorem test_cut_slot_sends_code_in_either_order :
    let pulse := highwayPulseStep 0 (Vector.replicate 256 0)
    (line carrying).psw.lineTx[(0 : PortNo)][(1 : ChanNo)] = 0x55 ∧
    (pulse (line carrying)).psw.lineTx[(0 : PortNo)][(1 : ChanNo)] = 0xAA ∧
    (line (pulse carrying)).psw.lineTx[(0 : PortNo)][(1 : ChanNo)] = 0xAA := by
  refine ⟨?_, ?_, ?_⟩ <;> rfl

theorem wit_Carried :
    carrying.psw.begunBefore = some lateFrame ∧ (line carrying).psw.carried[(0 : PortNo)] = true ∧
    carrying.psw.carried[(0 : PortNo)] = false ∧ carrying.psw.lineSel[(0 : PortNo)][(1 : ChanNo)] = .highwayIn 1 0xAA ∧
    carrying.psw.hwStore[(1 : SlotNo)] = some 0x55 ∧ Psw.initial.hwStore[(1 : SlotNo)] = none := by
  refine ⟨?_, ?_, ?_, ?_, ?_, ?_⟩ <;> rfl

theorem wit_HighwayBegins :
    (let h := { Hwi.initial with alignment := .confirm, expected := some 1023, confirmCount := 1 }
     h.expected = some 1023 ∧ h.alignment = .confirm ∧ 1 ≤ h.confirmCount) ∧
    (let h := { Hwi.initial with alignment := .aligned, expected := some 0, missCount := 2 }
     h.expected = some 0 ∧ h.alignment = .aligned ∧ h.missCount < 3) ∧
    128 + (0 : Fin 128).val ≤ lateFrame.offset.val + (1 : SlotNo).val ∧
    lateFrame.offset.val + (0 : SlotNo).val < 128 + (0 : Fin 128).val := by decide

theorem wit_Highway :
    State.reset.hwi.alignment = .seek ∧
    (let h := { Hwi.initial with alignment := .aligned, expected := some 1023, missCount := 3 }
     h.alignment = .aligned ∧ h.expected = some 1023 ∧ 3 ≤ h.missCount) := by decide

theorem wit_Faults :
    State.reset.ports[(0 : PortNo)].lpi.faultIn = true ∧ openLpi.faultIn = false ∧ openLpi.admin ≠ .closed ∧
    openLpi.condition = .normal ∧
    openLpi.expected = none ∧ ({ openLpi with faultIn := true, expected := some 7 } : Lpi).expected ≠ none ∧
    (let l := { openLpi with condition := .faulted, faultIn := true, recoveryTime := 0 }
     l.condition = .faulted ∧ l.recoveryTime = 0) ∧
    (let l := { openLpi with condition := .pending, holdTimer := some 0 }
     l.condition = .pending ∧ l.holdTimer = some 0) ∧
    (let l := { openLpi with condition := .recovering, recoveryTimer := some 0 }
     l.condition = .recovering ∧ l.recoveryTimer = some 0) := by decide

theorem wit_Sweep :
    (let s := { State.reset with swt := { Swt.initial with ticksDue := 1, sweep := .qphase, pendingTick := true, request := true } }
     s.pins.hold = false ∧ 0 < s.swt.ticksDue ∧ s.swt.sweep ≠ .idle ∧ s.swt.pendingTick = true ∧ s.swt.sweep = .qphase ∧
     s.swt.request = true) ∧
    (let l := { openLpi with condition := .faulted, countdown := 1 }
     l.countdown = 1 ∧ l.condition = .faulted) ∧
    (let v := { (slot5 { SlotRec.free with state := .quarantine, guard := some 1 } State.reset).lsv with quarantine := [5] }
     ∀ sl ∈ v.quarantine, v.slots[sl].guard = some 1) := by decide

theorem wit_SweepTick_refused :
    ({ State.reset with pins := { reset := false, hold := true } } : State).pins.hold = true ∧ State.reset.swt.ticksDue = 0 ∧
    openLpi.condition = .normal ∧ ({ openLpi with condition := .faulted, countdown := 2 } : Lpi).countdown ≠ 1 := by decide

theorem wit_SweepVisit :
    let s := { record0 { live0 with idle := 5 } State.reset with swt := { Swt.initial with sweep := .lphase 0, request := true } }
    s.swt.sweep = .lphase 0 ∧ s.swt.request = true ∧ Live s.lsv.leases[(0 : LeaseNo)] ∧
    0 < s.lsv.groups[(0 : GroupNo)].expiryLimit ∧
    s.lsv.groups[(0 : GroupNo)].expiryLimit ≤ s.lsv.leases[(0 : LeaseNo)].idle + 1 := by decide

theorem wit_AfterVisit :
    Spec.afterVisit Swt.initial 0 { Swt.initial with sweep := .lphase 1, request := true } ∧
    Spec.afterVisit Swt.initial 127 Swt.initial := by
  refine ⟨⟨?_, ?_, ?_⟩, ⟨?_, ?_, ?_⟩⟩
  · intro n hn
    have h : n = 1 := Fin.ext hn
    rw [h]
  · intro h; exact absurd h (by decide)
  · intro h; exact absurd h (by decide)
  · intro n hn; have h := n.isLt; simp at hn; omega
  · intro _ h; exact absurd h (by decide)
  · intro _ _; rfl

theorem wit_Pins :
    State.reset.swt.sweep = .idle ∧ ({ Swt.initial with sweep := .qphase } : Swt).sweep ≠ .idle ∧
    State.reset.held.pins.reset = true ∧ State.reset.held.lsv.chanMap[(0 : PortNo)][(1 : ChanNo)] = none ∧
    State.reset.held.ports[(0 : PortNo)].lpi.admin = .closed ∧
    State.reset.held.psw.lineSel[(0 : PortNo)][(16 : ChanNo)] = .signalling := by decide

/-! ### The invariants -/

theorem wit_Invariants_tables :
    open0.lsv.Grouped ∧ open0.lsv.Follows ∧ open0.lsv.Attended ∧ open0.lsv.Mapped ∧ open0.lsv.Slotted := by
  refine ⟨⟨?_, ?_, ?_, ?_, ?_⟩, ⟨?_, ?_⟩, ⟨?_, ?_, ?_⟩, ⟨?_, ?_, ?_⟩, ⟨?_, ?_, ?_, ?_, ?_, ?_, ?_, ?_, ?_, ?_, ?_, ?_, ?_, ?_⟩⟩
  all_goals
    simp [open0, port0, withPort, State.reset, Lsv.initial, Group.initial, SlotRec.free, Lsv.entry, Tap.initial,
      Lease.cleared, Lease.live]
  exact List.nodup_finRange 128

theorem open0_port (p : PortNo) :
    open0.ports[p] = if p = 0 then { Port.initial with lpi := openLpi } else Port.initial := by
  show (upd (Vector.replicate 4 Port.initial) 0 _)[p] = _
  rw [upd_get]
  by_cases h : p = 0
  · rw [if_pos h, if_pos h.symm]
    simp [State.reset]
  · rw [if_neg h, if_neg (Ne.symm h)]
    simp

theorem wit_Invariants_ports :
    open0.Bounded ∧ open0.Conditioned ∧ open0.Shut ∧ open0.Placed ∧ step open0 = .next open0 := by
  refine ⟨⟨fun p => ?_, by decide, by decide⟩, fun l h => ?_, ⟨fun p _ => ?_, fun p _ => ?_⟩, fun l h => ?_, rfl⟩
  · rw [open0_port]
    split <;> exact ⟨by decide, by decide, ⟨by decide, by decide, by decide, by decide, by decide, by decide, by decide⟩,
      by decide, by decide⟩
  · simp [open0, port0, withPort, State.reset, Lsv.initial] at h
  · rw [open0_port]
    split <;> exact ⟨⟨rfl, rfl, rfl, rfl⟩, rfl⟩
  · rw [open0_port]
    split <;> exact ⟨rfl, rfl, rfl, rfl⟩
  · simp [open0, port0, withPort, State.reset, Lsv.initial] at h

theorem wit_Shut_reformatted :
    reformatted0.Shut ∧ reformatted0.psw.formats[(0 : PortNo)] ≠ reformatted0.ports[(0 : PortNo)].lpi.format := by
  refine ⟨⟨fun p _ => ?_, fun p _ => ?_⟩, by decide⟩
  · fin_cases p <;> exact ⟨⟨rfl, rfl, rfl, rfl⟩, rfl⟩
  · fin_cases p <;> exact ⟨rfl, rfl, rfl, rfl⟩

/-! ### One step each on small states -/

/-- The state a command leaves. -/
def after (c : Instr) (s : State) : State :=
  match exec c s with
  | .next t => t
  | .fault _ => s
  | .refused _ => s

theorem test_lease_read_of_free_record : (after (.leaseRead .whole) (host 0 0 0 0 State.reset)).cpt.res = #v[0, 0xFF00, 0, 0] := by
  decide
theorem test_slot_read_of_free_slot :
    (after (.slotRead .whole) (host 5 0 0 0 State.reset)).cpt.res = #v[0x03FF, 0xFFFF, 0x0005, 0] := by rfl
theorem test_step_takes_front :
    step { State.reset with pending := [.holdAsserted] } = .next { State.reset with pins := { reset := false, hold := true } } := by
  rfl
theorem test_claim_served :
    let t := after .serving (serving (message 1 0) State.reset)
    t.ports[(0 : PortNo)].cch.queue = [{ kind := .grant, tag := 3, second := 0, channel := 1, third := 0 }] ∧
    t.lsv.chanMap[(0 : PortNo)][(1 : ChanNo)] = some 0 := by decide +kernel

end Sys2Proof.Tests
end

section
/-! PROOF. The taking of a host command that is Ready, in the words of the statements (R169, R170): the rules that the proof of
each host command uses. -/

namespace Sys2Proof.Spec

open Sys2Proof.Machine

/-- The state on which the table operation of a command that is Ready runs: the write with BUSY 0 has taken the command, or it
stands taken (R169, log 5). -/
def atRun (c : HostCmd) (ph : Phase) (s : State) : State :=
  match ph with
  | .take => s
  | .whole | .write => s.taken c

/-- A command that is Ready runs its operation, in either form (R169). -/
theorem hostCommand_ready {c : HostCmd} {ph : Phase} {s : State} (run : State → State) (h : Ready c ph s) :
    hostCommand c ph run s = run (atRun c ph s) := by
  obtain ⟨hreset, hphase⟩ := h
  cases ph with
  | whole => exact hostCommand_whole c run hreset hphase
  | write => exact hphase.elim
  | take => exact hostCommand_take c run hreset hphase

/-- Taking a command leaves the tables. -/
@[simp] theorem atRun_lsv (c : HostCmd) (ph : Phase) (s : State) : (atRun c ph s).lsv = s.lsv := by
  cases ph <;> rfl

/-- The operation reads the arguments that the statements name. -/
theorem atRun_arg (c : HostCmd) (ph : Phase) (s : State) (i : Fin 4) : (atRun c ph s).arg i = (args ph s)[i] := by
  cases ph <;> rfl

theorem hi_atRun_arg (c : HostCmd) (ph : Phase) (s : State) (i : Fin 4) :
    hi ((atRun c ph s).arg i) = argHigh ph s i := by
  rw [atRun_arg]
  rfl

theorem lo_atRun_arg (c : HostCmd) (ph : Phase) (s : State) (i : Fin 4) :
    lo ((atRun c ph s).arg i) = argLow ph s i := by
  rw [atRun_arg]
  rfl

/-- The completion of a command that changes nothing else is the `done` of the statements (R170). -/
theorem complete_atRun (c : HostCmd) (ph : Phase) (s : State) (code : ResultCode) (w0 w1 w2 w3 : Word) :
    (atRun c ph s).complete code w0 w1 w2 w3 = done ph code w0 w1 w2 w3 s := by
  cases ph <;> rfl

/-- A number alone in a result word. -/
theorem fields_number (n : Nat) : fields [(0, n)] = word n := by
  simp [fields, word]

end Sys2Proof.Spec
end

section
/-! PROOF. LEASE_FIND (R14): what the channel map can hold, the three outcomes of the operation, and O5. -/

namespace Sys2Proof.Machine

/-! ### What the channel map can hold (R12, R13) -/

/-- No entry names a RETIRED record: it names a live one. -/
theorem Lsv.Mapped.entry_not_retired {v : Lsv} (h : v.Mapped) {p : PortNo} {c : ChanNo} {l : LeaseNo}
    (he : v.entry p c = some l) : v.leases[l].state ≠ .retired := by
  obtain ⟨hlive, -, -⟩ := h.names p c l he
  intro hretired
  rw [Lease.live_iff, hretired] at hlive
  simp at hlive

/-- The entry of a channel that is no bearer channel of its port is empty: the live lease it would name stands on a bearer
channel. -/
theorem State.entry_eq_none_of_not_bearer {s : State} (hm : s.lsv.Mapped) (hp : s.Placed) {p : PortNo} {c : ChanNo}
    (hb : s.ports[p].lpi.format.bearer c = false) : s.lsv.entry p c = none := by
  cases he : s.lsv.entry p c with
  | none => rfl
  | some l =>
    obtain ⟨hlive, rfl, rfl⟩ := hm.names p c l he
    obtain ⟨-, hbearer⟩ := hp l hlive
    rw [hb] at hbearer
    cases hbearer

/-! ### The outcomes of the operation (R14) -/

/-- A port or a channel out of range. -/
theorem runLeaseFind_badArg {s : State} (h : 3 < hi (s.arg 0) ∨ 31 < lo (s.arg 0)) :
    runLeaseFind s = s.completeBare .badArg := by
  unfold runLeaseFind
  obtain hp | hc := h
  · rw [below_none (n := 4) hp]
  · rw [below_none (n := 32) hc]
    cases below 4 (hi (s.arg 0)) <;> rfl

/-- An entry that holds a lease number. -/
theorem runLeaseFind_found {s : State} {p : PortNo} {c : ChanNo} {l : LeaseNo} (hp : hi (s.arg 0) = p.val)
    (hc : lo (s.arg 0) = c.val) (he : s.lsv.entry p c = some l) :
    runLeaseFind s = s.complete .ok (word l.val) 0 0 0 := by
  simp only [runLeaseFind, below_some p hp, below_some c hc, he]

/-- An empty entry. -/
theorem runLeaseFind_empty {s : State} {p : PortNo} {c : ChanNo} (hp : hi (s.arg 0) = p.val)
    (hc : lo (s.arg 0) = c.val) (he : s.lsv.entry p c = none) :
    runLeaseFind s = s.completeBare .none := by
  simp only [runLeaseFind, below_some p hp, below_some c hc, he]

end Sys2Proof.Machine

namespace Sys2Proof.Spec

open Sys2Proof.Machine

/-! ### The command -/

/-- LEASE_FIND that is Ready runs its operation on the arguments as latched. -/
theorem exec_leaseFind {ph : Phase} {s : State} (h : Ready .leaseFind ph s) :
    exec (.leaseFind ph) s = .next (runLeaseFind (atRun .leaseFind ph s)) :=
  congrArg Host.Outcome.next (hostCommand_ready runLeaseFind h)

theorem exec_leaseFind_badArg {ph : Phase} {s : State} (h : Ready .leaseFind ph s)
    (ha : 3 < argHigh ph s 0 ∨ 31 < argLow ph s 0) : exec (.leaseFind ph) s = .next (done0 ph .badArg s) := by
  rw [← hi_atRun_arg .leaseFind, ← lo_atRun_arg .leaseFind] at ha
  rw [exec_leaseFind h, runLeaseFind_badArg ha, State.completeBare, complete_atRun, done0]

theorem exec_leaseFind_found {ph : Phase} {s : State} (h : Ready .leaseFind ph s) {p : PortNo} {c : ChanNo} {l : LeaseNo}
    (hp : argHigh ph s 0 = p.val) (hc : argLow ph s 0 = c.val) (he : s.lsv.entry p c = some l) :
    exec (.leaseFind ph) s = .next (done ph .ok (fields [(0, l.val)]) 0 0 0 s) := by
  rw [← hi_atRun_arg .leaseFind] at hp
  rw [← lo_atRun_arg .leaseFind] at hc
  rw [← atRun_lsv .leaseFind ph] at he
  rw [exec_leaseFind h, runLeaseFind_found hp hc he, complete_atRun, fields_number]

theorem exec_leaseFind_empty {ph : Phase} {s : State} (h : Ready .leaseFind ph s) {p : PortNo} {c : ChanNo}
    (hp : argHigh ph s 0 = p.val) (hc : argLow ph s 0 = c.val) (he : s.lsv.entry p c = none) :
    exec (.leaseFind ph) s = .next (done0 ph .none s) := by
  rw [← hi_atRun_arg .leaseFind] at hp
  rw [← lo_atRun_arg .leaseFind] at hc
  rw [← atRun_lsv .leaseFind ph] at he
  rw [exec_leaseFind h, runLeaseFind_empty hp hc he, State.completeBare, complete_atRun, done0]

/-- Settles O5, outcome by outcome; its last two clauses from what the channel map can hold. -/
theorem leaseFindReadsChannelMap : Obligations.LeaseFindReadsChannelMap := by
  intro ph s h
  refine ⟨exec_leaseFind_badArg h, fun p c hp hc => ⟨fun l he => ⟨?_, ?_⟩, ?_, ?_⟩⟩
  · exact exec_leaseFind_found h hp hc he
  · exact fun hmapped => hmapped.entry_not_retired he
  · exact exec_leaseFind_empty h hp hc
  · exact fun hmapped hplaced hbearer =>
      exec_leaseFind_empty h hp hc (State.entry_eq_none_of_not_bearer hmapped hplaced hbearer)

end Sys2Proof.Spec
end

section
/-! PROOF. What the commands on slots and the pool share: an argument as a number, the completion after a table operation, and
the layout of their result words (12 §12.5). -/

namespace Sys2Proof.Spec

open Sys2Proof.Machine

/-! ### Arguments and completion (R169, R170) -/

theorem toNat_atRun_arg (c : HostCmd) (ph : Phase) (s : State) (i : Fin 4) :
    ((atRun c ph s).arg i).toNat = arg ph s i := by
  rw [atRun_arg]
  rfl

/-- The completion of a command that has replaced the tables is the `done` of the statements on those tables (R170). -/
theorem complete_atRun_withTables (c : HostCmd) (ph : Phase) (s : State) (v : Lsv) (code : ResultCode) (w0 w1 w2 w3 : Word) :
    { atRun c ph s with lsv := v }.complete code w0 w1 w2 w3 = done ph code w0 w1 w2 w3 (withTables s v) := by
  cases ph <;> rfl

/-- A completion that leaves the state as it was, without result words. -/
theorem completeBare_atRun (c : HostCmd) (ph : Phase) (s : State) (code : ResultCode) :
    (atRun c ph s).completeBare code = done0 ph code s :=
  complete_atRun c ph s code 0 0 0 0

/-! ### Result words (R189) -/

/-- Two byte fields. -/
theorem fields_bytes (a b : Nat) : fields [(8, a), (0, b)] = word (a * 256 + b) := by
  simp [fields, word]

/-- A field in bits 15..14. -/
theorem fields_top (n : Nat) : fields [(14, n)] = word (n * 16384) := by
  simp [fields, word]

theorem numberOr_eq_orNone {n : Nat} (x : Option (Fin n)) (absent : Nat) : numberOr x absent = orNone x absent := by
  cases x <;> rfl

theorem slotCode_eq_toCode (st : SlotState) : slotCode st = st.toCode := by
  cases st <;> rfl

theorem code_tapState (st : TapState) : code [TapState.off, .on, .ended] st = st.toCode := by
  cases st <;> rfl

/-- The code of an absent end reason is 0. -/
theorem code_endReason (r : Option EndReason) :
    code [none, some EndReason.sourceRetired, some .reset] r = (r.map EndReason.toCode).getD 0 := by
  obtain _ | _ | _ := r <;> rfl

end Sys2Proof.Spec
end

section
/-! PROOF. SLOT_RELEASE (R39): what joining the pool does to a slot, the outcomes of the operation, and O16. -/

namespace Sys2Proof.Machine

/-! ### A slot returned to the pool (R33, R39) -/

/-- At a guard setting other than 0 the slot joins the quarantine tail with that guard (R33). -/
theorem Lsv.toPool_guarded {v : Lsv} (h : v.guardSetting ≠ 0) (sl : SlotNo) :
    v.toPool sl = { v with
      slots := upd v.slots sl { state := .quarantine, home := none, holder := none, guard := some v.guardSetting }
      quarantine := v.quarantine ++ [sl] } :=
  if_neg h

/-- At guard setting 0 it joins the free-list tail at once (R33). -/
theorem Lsv.toPool_unguarded {v : Lsv} (h : v.guardSetting = 0) (sl : SlotNo) :
    v.toPool sl = { v with
      slots := upd v.slots sl { state := .free, home := none, holder := none, guard := none }
      freeList := v.freeList ++ [sl] } :=
  if_pos h

theorem Lsv.releaseSlot_reserved {v : Lsv} {sl : SlotNo} (h : v.slots[sl].state = .reserved) :
    v.releaseSlot sl = v.toPool sl := by
  simp only [Lsv.releaseSlot, h]

theorem Lsv.releaseSlot_held {v : Lsv} {sl : SlotNo} (h : v.slots[sl].state = .held) :
    v.releaseSlot sl = { v with slots := upd v.slots sl { v.slots[sl] with home := some .pool } } := by
  simp only [Lsv.releaseSlot, h, Lsv.setSlot]

/-- A slot that is in the pool already stays as it is. -/
theorem Lsv.releaseSlot_pooled {v : Lsv} {sl : SlotNo}
    (h : v.slots[sl].state = .free ∨ v.slots[sl].state = .quarantine) : v.releaseSlot sl = v := by
  obtain h | h := h <;> simp only [Lsv.releaseSlot, h]

/-! ### The outcomes of the operation (R39) -/

theorem runSlotRelease_badArg {s : State} (h : 128 ≤ (s.arg 0).toNat) :
    runSlotRelease s = s.completeBare .badArg := by
  simp only [runSlotRelease, below_none h]

theorem runSlotRelease_tapBusy {s : State} {sl : SlotNo} (ha : (s.arg 0).toNat = sl.val)
    (h : s.lsv.slots[sl].state = .reserved ∧ s.lsv.tapTarget sl) : runSlotRelease s = s.completeBare .tapBusy := by
  simp only [runSlotRelease, below_some sl ha, if_pos h]

theorem runSlotRelease_ok {s : State} {sl : SlotNo} (ha : (s.arg 0).toNat = sl.val)
    (h : ¬ (s.lsv.slots[sl].state = .reserved ∧ s.lsv.tapTarget sl)) :
    runSlotRelease s =
      { s with lsv := s.lsv.releaseSlot sl }.complete .ok (s.lsv.slotStateWord sl) 0 0 0 := by
  simp only [runSlotRelease, below_some sl ha, if_neg h]

end Sys2Proof.Machine

namespace Sys2Proof.Spec

open Sys2Proof.Machine

/-! ### The command -/

/-- The model's test for a tap's target is that of the statements (R46). -/
theorem tapTarget_iff (v : Lsv) (sl : SlotNo) : v.tapTarget sl = true ↔ TapTarget v sl := by
  simp [Lsv.tapTarget, TapTarget]

/-- The result word of SLOT_RESERVE and SLOT_RELEASE holds the state the slot had. -/
theorem slotStateWord_eq_fields {v : Lsv} {sl : SlotNo} {st : SlotState} (h : v.slots[sl].state = st) :
    v.slotStateWord sl = fields [(14, slotCode st)] := by
  rw [Lsv.slotStateWord, h, fields_top, slotCode_eq_toCode]

/-- SLOT_RELEASE that is Ready runs its operation on the arguments as latched. -/
theorem exec_slotRelease {ph : Phase} {s : State} (h : Ready .slotRelease ph s) :
    exec (.slotRelease ph) s = .next (runSlotRelease (atRun .slotRelease ph s)) :=
  congrArg Host.Outcome.next (hostCommand_ready runSlotRelease h)

theorem exec_slotRelease_badArg {ph : Phase} {s : State} (h : Ready .slotRelease ph s) (ha : 127 < arg ph s 0) :
    exec (.slotRelease ph) s = .next (done0 ph .badArg s) := by
  rw [← toNat_atRun_arg .slotRelease] at ha
  rw [exec_slotRelease h, runSlotRelease_badArg ha, completeBare_atRun]

theorem exec_slotRelease_tapBusy {ph : Phase} {s : State} (h : Ready .slotRelease ph s) {sl : SlotNo}
    (ha : arg ph s 0 = sl.val) (hst : s.lsv.slots[sl].state = .reserved) (ht : TapTarget s.lsv sl) :
    exec (.slotRelease ph) s = .next (done0 ph .tapBusy s) := by
  rw [← toNat_atRun_arg .slotRelease] at ha
  have htarget : s.lsv.slots[sl].state = .reserved ∧ s.lsv.tapTarget sl := ⟨hst, (tapTarget_iff _ _).mpr ht⟩
  rw [← atRun_lsv .slotRelease ph] at htarget
  rw [exec_slotRelease h, runSlotRelease_tapBusy ha htarget, completeBare_atRun]

/-- A slot in state `st` that no tap holds back: OK with the state before, and the tables with the slot released. -/
theorem exec_slotRelease_ok {ph : Phase} {s : State} (h : Ready .slotRelease ph s) {sl : SlotNo}
    (ha : arg ph s 0 = sl.val) {st : SlotState} (hst : s.lsv.slots[sl].state = st)
    (ht : st = .reserved → ¬ TapTarget s.lsv sl) :
    exec (.slotRelease ph) s =
      .next (done ph .ok (fields [(14, slotCode st)]) 0 0 0 (withTables s (s.lsv.releaseSlot sl))) := by
  rw [← toNat_atRun_arg .slotRelease] at ha
  have hgoes : ¬ (s.lsv.slots[sl].state = .reserved ∧ s.lsv.tapTarget sl) :=
    fun ⟨hres, htap⟩ => ht (hst ▸ hres) ((tapTarget_iff _ _).mp htap)
  rw [← atRun_lsv .slotRelease ph] at hgoes
  rw [exec_slotRelease h, runSlotRelease_ok ha hgoes, complete_atRun_withTables, atRun_lsv, slotStateWord_eq_fields hst]

/-- Settles O16, by the state of the slot: TAP_BUSY, or OK and what the release does to a slot in that state. -/
theorem slotReleaseReturnsSlot : Obligations.SlotReleaseReturnsSlot := by
  intro ph s h
  refine ⟨exec_slotRelease_badArg h, fun sl ha => ⟨?tapBusy, ?quarantined, ?freed, ?held, ?free, ?quarantine⟩⟩
  case tapBusy => exact exec_slotRelease_tapBusy h ha
  case quarantined =>
    intro hst ht hguard
    rw [exec_slotRelease_ok h ha hst fun _ => ht, Lsv.releaseSlot_reserved hst, Lsv.toPool_guarded hguard]
    rfl
  case freed =>
    intro hst ht hguard
    rw [exec_slotRelease_ok h ha hst fun _ => ht, Lsv.releaseSlot_reserved hst, Lsv.toPool_unguarded hguard]
    rfl
  case held =>
    intro hst
    rw [exec_slotRelease_ok h ha hst nofun, Lsv.releaseSlot_held hst]
    rfl
  case free =>
    intro hst
    rw [exec_slotRelease_ok h ha hst nofun, Lsv.releaseSlot_pooled (.inl hst)]
    rfl
  case quarantine =>
    intro hst
    rw [exec_slotRelease_ok h ha hst nofun, Lsv.releaseSlot_pooled (.inr hst)]
    rfl

end Sys2Proof.Spec
end

section
/-! PROOF. POOL_READ (R44) and POOL_SET (R45): the views in the layout of 12 §12.5, the outcomes of both operations, and O17. -/

namespace Sys2Proof.Machine

/-! ### The outcomes of POOL_READ's operation (R44) -/

/-- The view SUMMARY, whatever the index. -/
theorem runPoolRead_summary {s : State} (h : (s.arg 0).toNat = 0) : runPoolRead s = s.poolSummary := by
  simp only [runPoolRead, h]

/-- The view TAP, whatever the index. -/
theorem runPoolRead_tap {s : State} (h : (s.arg 0).toNat = 1) : runPoolRead s = s.poolTap := by
  simp only [runPoolRead, h]

theorem runPoolRead_freeEntry {s : State} (h : (s.arg 0).toNat = 2) (hi : (s.arg 1).toNat < 128) :
    runPoolRead s = s.poolFreeEntry (s.arg 1).toNat := by
  simp only [runPoolRead, h, if_pos hi]

theorem runPoolRead_quarantineEntry {s : State} (h : (s.arg 0).toNat = 3) (hi : (s.arg 1).toNat < 128) :
    runPoolRead s = s.poolQuarantineEntry (s.arg 1).toNat := by
  simp only [runPoolRead, h, if_pos hi]

/-- A view that does not exist. -/
theorem runPoolRead_noView {s : State} (h : 3 < (s.arg 0).toNat) : runPoolRead s = s.completeBare .badArg := by
  unfold runPoolRead
  split
  case h_5 => rfl
  all_goals omega

/-- An entry view with an index out of range. -/
theorem runPoolRead_indexOut {s : State} (h : (s.arg 0).toNat = 2 ∨ (s.arg 0).toNat = 3) (hi : ¬ (s.arg 1).toNat < 128) :
    runPoolRead s = s.completeBare .badArg := by
  obtain h | h := h <;> simp only [runPoolRead, h, if_neg hi]

end Sys2Proof.Machine

namespace Sys2Proof.Spec

open Sys2Proof.Machine

/-! ### The four views (R44) -/

theorem poolSummary_atRun (c : HostCmd) (ph : Phase) (s : State) :
    (atRun c ph s).poolSummary =
      done ph .ok (fields [(8, s.lsv.freeList.length), (0, s.lsv.quarantine.length)]) (fields [(0, s.lsv.guardSetting)])
        (fields [(8, s.lsv.floors[0]), (0, s.lsv.floors[1])]) (fields [(8, s.lsv.floors[2]), (0, s.lsv.floors[3])]) s := by
  simp only [State.poolSummary, complete_atRun, atRun_lsv, fields_bytes, fields_number]

theorem poolTap_atRun (c : HostCmd) (ph : Phase) (s : State) :
    (atRun c ph s).poolTap =
      done ph .ok
        (fields [(8, code [none, some EndReason.sourceRetired, some .reset] s.lsv.tap.endReason),
          (0, code [TapState.off, .on, .ended] s.lsv.tap.state)])
        (fields [(0, numberOr s.lsv.tap.source 0xFFFF)]) (fields [(0, numberOr s.lsv.tap.target 0xFFFF)]) 0 s := by
  simp only [State.poolTap, complete_atRun, atRun_lsv, fields_bytes, fields_number, code_endReason, code_tapState,
    numberOr_eq_orNone]

theorem poolFreeEntry_atRun_some (c : HostCmd) (ph : Phase) {s : State} {i : Nat} {sl : SlotNo}
    (h : s.lsv.freeList[i]? = some sl) :
    (atRun c ph s).poolFreeEntry i = done ph .ok (fields [(0, sl.val)]) 0 0 0 s := by
  simp only [State.poolFreeEntry, atRun_lsv, h, complete_atRun, fields_number]

theorem poolFreeEntry_atRun_none (c : HostCmd) (ph : Phase) {s : State} {i : Nat} (h : s.lsv.freeList.length ≤ i) :
    (atRun c ph s).poolFreeEntry i = done0 ph .none s := by
  simp only [State.poolFreeEntry, atRun_lsv, List.getElem?_eq_none h, completeBare_atRun]

theorem poolQuarantineEntry_atRun_some (c : HostCmd) (ph : Phase) {s : State} {i : Nat} {sl : SlotNo}
    (h : s.lsv.quarantine[i]? = some sl) :
    (atRun c ph s).poolQuarantineEntry i =
      done ph .ok (fields [(0, sl.val)]) (fields [(0, s.lsv.slots[sl].guard.getD 0)]) 0 0 s := by
  simp only [State.poolQuarantineEntry, atRun_lsv, h, complete_atRun, fields_number]

theorem poolQuarantineEntry_atRun_none (c : HostCmd) (ph : Phase) {s : State} {i : Nat}
    (h : s.lsv.quarantine.length ≤ i) : (atRun c ph s).poolQuarantineEntry i = done0 ph .none s := by
  simp only [State.poolQuarantineEntry, atRun_lsv, List.getElem?_eq_none h, completeBare_atRun]

/-! ### POOL_READ -/

/-- POOL_READ that is Ready runs its operation on the arguments as latched. -/
theorem exec_poolRead {ph : Phase} {s : State} (h : Ready .poolRead ph s) :
    exec (.poolRead ph) s = .next (runPoolRead (atRun .poolRead ph s)) :=
  congrArg Host.Outcome.next (hostCommand_ready runPoolRead h)

theorem exec_poolRead_freeEntry {ph : Phase} {s : State} (h : Ready .poolRead ph s) (hv : arg ph s 0 = 2)
    (hi : arg ph s 1 ≤ 127) :
    exec (.poolRead ph) s = .next ((atRun .poolRead ph s).poolFreeEntry (arg ph s 1)) := by
  rw [← toNat_atRun_arg .poolRead] at hv hi ⊢
  rw [exec_poolRead h, runPoolRead_freeEntry hv (Nat.lt_succ_of_le hi)]

theorem exec_poolRead_quarantineEntry {ph : Phase} {s : State} (h : Ready .poolRead ph s) (hv : arg ph s 0 = 3)
    (hi : arg ph s 1 ≤ 127) :
    exec (.poolRead ph) s = .next ((atRun .poolRead ph s).poolQuarantineEntry (arg ph s 1)) := by
  rw [← toNat_atRun_arg .poolRead] at hv hi ⊢
  rw [exec_poolRead h, runPoolRead_quarantineEntry hv (Nat.lt_succ_of_le hi)]

theorem exec_poolRead_badArg {ph : Phase} {s : State} (h : Ready .poolRead ph s)
    (ha : 3 < arg ph s 0 ∨ ((arg ph s 0 = 2 ∨ arg ph s 0 = 3) ∧ 127 < arg ph s 1)) :
    exec (.poolRead ph) s = .next (done0 ph .badArg s) := by
  simp only [← toNat_atRun_arg .poolRead] at ha
  rw [exec_poolRead h, ← completeBare_atRun .poolRead]
  obtain hv | ⟨hv, hi⟩ := ha
  · rw [runPoolRead_noView hv]
  · rw [runPoolRead_indexOut hv (Nat.not_lt.mpr hi)]

/-- POOL_READ, view by view (R44). -/
theorem poolReadReportsViews : PoolReadReportsViews := by
  intro ph s h
  refine ⟨?summary, ?tap, ?freeEntry, ?quarantineEntry, exec_poolRead_badArg h⟩
  case summary =>
    intro hv
    rw [← toNat_atRun_arg .poolRead] at hv
    rw [exec_poolRead h, runPoolRead_summary hv, poolSummary_atRun]
  case tap =>
    intro hv
    rw [← toNat_atRun_arg .poolRead] at hv
    rw [exec_poolRead h, runPoolRead_tap hv, poolTap_atRun]
  case freeEntry =>
    intro hv hi
    rw [exec_poolRead_freeEntry h hv hi]
    exact ⟨fun sl hsl => congrArg _ (poolFreeEntry_atRun_some _ _ hsl),
      fun hlen => congrArg _ (poolFreeEntry_atRun_none _ _ hlen)⟩
  case quarantineEntry =>
    intro hv hi
    rw [exec_poolRead_quarantineEntry h hv hi]
    exact ⟨fun sl hsl => congrArg _ (poolQuarantineEntry_atRun_some _ _ hsl),
      fun hlen => congrArg _ (poolQuarantineEntry_atRun_none _ _ hlen)⟩

/-! ### POOL_SET -/

/-- POOL_SET that is Ready: the five settings are replaced together when all are in range, and none otherwise (R45). -/
theorem exec_poolSet {ph : Phase} {s : State} (h : Ready .poolSet ph s) :
    exec (.poolSet ph) s =
      .next (if argLow ph s 0 ≤ 15 ∧ argHigh ph s 1 ≤ 127 ∧ argLow ph s 1 ≤ 127 ∧ argHigh ph s 2 ≤ 127 ∧
          argLow ph s 2 ≤ 127
        then done0 ph .ok (withTables s { s.lsv with
          guardSetting := argLow ph s 0
          floors := #v[argHigh ph s 1, argLow ph s 1, argHigh ph s 2, argLow ph s 2] })
        else done0 ph .badArg s) := by
  have hexec : exec (.poolSet ph) s = .next (runPoolSet (atRun .poolSet ph s)) :=
    congrArg Host.Outcome.next (hostCommand_ready runPoolSet h)
  rw [hexec]
  simp only [runPoolSet, hi_atRun_arg, lo_atRun_arg, atRun_lsv, State.completeBare, complete_atRun_withTables,
    complete_atRun, done0]

theorem poolSetReplacesSettings : PoolSetReplacesSettings := by
  intro ph s h inRange hrange
  rw [exec_poolSet h]
  constructor
  · intro hin
    rw [if_pos (hrange.mp hin)]
  · intro hout
    rw [if_neg (mt hrange.mpr hout)]

/-- Settles O17: POOL_READ by its views, POOL_SET by its range test. -/
theorem poolCommandsReadAndSet : Obligations.PoolCommandsReadAndSet :=
  ⟨poolReadReportsViews, poolSetReplacesSettings⟩

end Sys2Proof.Spec
end

section
/-! PROOF. The fourth byte of a message (R77): the four outcomes of a complete message, the tests of the statements against
those of the model, and O32. -/

namespace Sys2Proof.Machine

/-! ### Ports that answer (R72, R84) -/

/-- A port answers while it is OPEN or DRAIN with condition NORMAL or PENDING (R72). -/
theorem Lpi.answers_iff (l : Lpi) :
    l.answers = true ↔ l.admin ≠ .closed ∧ (l.condition = .normal ∨ l.condition = .pending) := by
  simp [Lpi.answers]

/-! ### A complete message (R77) -/

/-- A message that fails the check is discarded and counted. -/
theorem Cch.completeMessage_checkErr {c : Cch} {b1 b2 b3 b4 : Byte} (h : checkPasses b1 b2 b3 b4 = false) :
    c.completeMessage b1 b2 b3 b4 = { c with assembly := .hunt, counters := c.counters.addCheckErr } := by
  simp only [Cch.completeMessage, h, Bool.false_eq_true, if_false]

/-- A message that passes the check enters buffer A when A is empty. -/
theorem Cch.completeMessage_bufA {c : Cch} {b1 b2 b3 b4 : Byte} (h : checkPasses b1 b2 b3 b4 = true)
    (hA : c.bufA = none) :
    c.completeMessage b1 b2 b3 b4 = { c with assembly := .hunt, bufA := some (messageOf b1 b2 b3 b4) } := by
  simp only [Cch.completeMessage, h, if_true, Cch.store, hA]

/-- With A full and B empty it enters buffer B. -/
theorem Cch.completeMessage_bufB {c : Cch} {b1 b2 b3 b4 : Byte} (h : checkPasses b1 b2 b3 b4 = true)
    (hA : c.bufA ≠ none) (hB : c.bufB = none) :
    c.completeMessage b1 b2 b3 b4 = { c with assembly := .hunt, bufB := some (messageOf b1 b2 b3 b4) } := by
  simp only [Cch.completeMessage, h, if_true, Cch.store, hA, if_false, hB]

/-- With both buffers full it is discarded and counted. -/
theorem Cch.completeMessage_overrun {c : Cch} {b1 b2 b3 b4 : Byte} (h : checkPasses b1 b2 b3 b4 = true)
    (hA : c.bufA ≠ none) (hB : c.bufB ≠ none) :
    c.completeMessage b1 b2 b3 b4 = { c with assembly := .hunt, counters := c.counters.addOverrun } := by
  simp only [Cch.completeMessage, h, if_true, Cch.store, hA, hB, if_false]

/-! ### The fourth byte -/

/-- With three bytes gathered, a continuation byte completes the message. -/
theorem Cch.receive_fourth {c : Cch} {b1 b2 b3 b4 : Byte} (ha : c.assembly = .gather3 b1 b2 b3)
    (hb : isHeader b4 = false) : c.receive b4 = c.completeMessage b1 b2 b3 b4 := by
  simp only [Cch.receive, hb, Bool.false_eq_true, if_false, Cch.continuation, ha]

/-- A port that assembles takes the fourth byte, and the Claim Processor looks for an eligible port (R77, R91). -/
theorem messageCompleteStep_fourth {s : State} {p : PortNo} {b1 b2 b3 b4 : Byte} (hs : s.assembles p = true)
    (ha : s.ports[p].cch.assembly = .gather3 b1 b2 b3) (hb : isHeader b4 = false) :
    messageCompleteStep p b4 s = (s.setCch p (s.ports[p].cch.completeMessage b1 b2 b3 b4)).pollServing := by
  have hfull : s.ports[p].cch.assembly.full = true := by rw [ha]; rfl
  have hreceive : s.receiveByte p b4 = s.setCch p (s.ports[p].cch.completeMessage b1 b2 b3 b4) := by
    rw [State.receiveByte, if_pos hs, Cch.receive_fourth ha hb]
  simp only [messageCompleteStep, hb, hfull, hs, hreceive, Bool.not_false, Bool.and_self, if_true]

end Sys2Proof.Machine

namespace Sys2Proof.Spec

open Sys2Proof.Machine

/-! ### The tests of the model and of the statements -/

/-- The model's test for a port that assembles is that of the statements (R71, R72). -/
theorem assembles_iff (s : State) (p : PortNo) : s.assembles p = true ↔ Assembles s p := by
  rw [State.assembles_iff, Lpi.answers_iff, State.signals_iff]
  constructor
  · rintro ⟨hreset, ⟨hopen, hcondition⟩, -, hformat⟩
    exact ⟨hreset, ⟨hopen, hformat⟩, hcondition⟩
  · rintro ⟨hreset, ⟨hopen, hformat⟩, hcondition⟩
    exact ⟨hreset, ⟨hopen, hcondition⟩, hopen, hformat⟩

/-- A byte without the start marker is no header byte (R73). -/
theorem isHeader_eq_false_iff (b : Byte) : isHeader b = false ↔ ¬ Marked b :=
  (iff_of_eq (Bool.not_eq_true _)).symm

/-- The model's check is that of the statements (R74). -/
theorem checkPasses_iff (b1 b2 b3 b4 : Byte) : checkPasses b1 b2 b3 b4 = true ↔ ChecksOut b1 b2 b3 b4 :=
  beq_iff_eq

theorem checkPasses_eq_false_iff (b1 b2 b3 b4 : Byte) : checkPasses b1 b2 b3 b4 = false ↔ ¬ ChecksOut b1 b2 b3 b4 := by
  rw [← checkPasses_iff, Bool.not_eq_true]

/-- The four bytes determine the message they carry: it is the one the model reads from them (R73, R186). -/
theorem Carries.messageOf_eq {m : Message} {b1 b2 b3 b4 : Byte} (h : Carries m b1 b2 b3 b4) :
    messageOf b1 b2 b3 b4 = m := by
  obtain ⟨hkind, htag, hlkind, hchannel, hcls, hgroup, hcheck⟩ := h
  obtain ⟨kind, tag, lkind, channel, cls, group, check⟩ := m
  simp only [messageOf, Message.mk.injEq]
  exact ⟨Fin.ext hkind.symm, Fin.ext htag.symm, Fin.ext hlkind.symm, Fin.ext hchannel.symm, Fin.ext hcls.symm,
    Fin.ext hgroup.symm, Fin.ext hcheck.symm⟩

/-- The model's counters count as those of the statements (R89). -/
theorem saturate_eq_counted (n : Nat) : saturate n = counted n :=
  saturate_eq n

/-- The model submits a serving request exactly when the statements do (R91). -/
theorem pollServing_eq_requesting (s : State) : s.pollServing = requesting s := by
  have hany : s.anyEligible =
      decide (∃ p : PortNo, s.ports[p].cch.bufA.isSome = true ∧ s.ports[p].cch.queue.length ≤ 6) := by
    rw [Bool.eq_iff_iff, decide_eq_true_iff, State.anyEligible_iff]
    exact exists_congr fun p => Port.eligible_iff _
  unfold State.pollServing requesting
  rw [← hany]
  cases s.anyEligible with
  | false => simp only [Bool.false_eq_true, if_false, Bool.or_false]
  | true => simp only [if_true, Bool.or_true]

/-! ### The row -/

/-- The fourth byte at a port that assembles: the port's Claim Channel takes the complete message, and a port that is then
eligible makes a serving request. -/
theorem exec_messageComplete {s : State} {p : PortNo} {b1 b2 b3 b4 : Byte} (hs : Assembles s p)
    (ha : s.ports[p].cch.assembly = .gather3 b1 b2 b3) (hb : ¬ Marked b4) :
    exec (.messageComplete p b4) s =
      .next (requesting (withCch s p (s.ports[p].cch.completeMessage b1 b2 b3 b4))) := by
  have hstep := messageCompleteStep_fourth ((assembles_iff s p).mpr hs) ha ((isHeader_eq_false_iff b4).mpr hb)
  rw [pollServing_eq_requesting] at hstep
  exact congrArg Host.Outcome.next hstep

/-- Settles O32, by the check and the two buffers: CHECK_ERR, buffer A, buffer B, or OVERRUN. -/
theorem messageCompleteChecked : Obligations.MessageCompleteChecked := by
  rintro s p b1 b2 b3 b4 _ m hs rfl ha hb hm
  rw [exec_messageComplete hs ha hb]
  refine ⟨?checkErr, ?bufferA, ?bufferB, ?overrun⟩
  case checkErr =>
    intro hc
    rw [Cch.completeMessage_checkErr ((checkPasses_eq_false_iff ..).mpr hc), Counters.addCheckErr, saturate_eq_counted]
  case bufferA =>
    intro hc hA
    rw [Cch.completeMessage_bufA ((checkPasses_iff ..).mpr hc) hA, hm.messageOf_eq]
  case bufferB =>
    intro hc hA hB
    rw [Cch.completeMessage_bufB ((checkPasses_iff ..).mpr hc) hA hB, hm.messageOf_eq]
  case overrun =>
    intro hc hA hB
    rw [Cch.completeMessage_overrun ((checkPasses_iff ..).mpr hc) hA hB, Counters.addOverrun, saturate_eq_counted]

end Sys2Proof.Spec
end

section
/-! PROOF. Notices and turns of leases (R8, R18, R56, R117, R120, R158): what a notice adds to a record, what a turn of each lease
of a list does to records and attention list, the listeners at a change of talker, and O13. -/

namespace Sys2Proof.Spec

open Sys2Proof.Machine

/-! ### One notice (R8, R158) -/

/-- The notice rule of the model is that of the statements (R8, R54). -/
theorem collects_iff (v : Lsv) (r : Lease) (k : Notice) :
    v.collects r k = true ↔ r.origin = .host ∨ v.groups[r.group].mask.getLsbD k.bit = true := by
  simp [Lsv.collects, NoticeSet.has]

theorem add_eq_or (n : NoticeSet) (k : Notice) : n.add k = n ||| (1#7 <<< k.bit) := by
  rw [NoticeSet.add, BitVec.twoPow_eq]

theorem noticed_pos {v : Lsv} {k : Notice} {r : Lease} (h : v.collects r k = true) :
    noticed v k r = { r with notices := r.notices.add k } := by
  rw [noticed, if_pos ((collects_iff v r k).mp h), add_eq_or]

theorem noticed_neg {v : Lsv} {k : Notice} {r : Lease} (h : ¬ v.collects r k = true) : noticed v k r = r :=
  if_neg (mt (collects_iff v r k).mpr h)

/-- A notice changes nothing of a record but its notice set. -/
theorem noticed_keeps (v : Lsv) (k : Notice) (r : Lease) : noticed v k r = { r with notices := (noticed v k r).notices } := by
  unfold noticed
  split <;> rfl

@[simp] theorem noticed_state (v : Lsv) (k : Notice) (r : Lease) : (noticed v k r).state = r.state := by
  rw [noticed_keeps]

/-- The notices depend on the groups of the tables and on nothing else of them. -/
theorem noticed_congr {v w : Lsv} (h : w.groups = v.groups) (k : Notice) (r : Lease) : noticed w k r = noticed v k r := by
  simp only [noticed, h]

/-- The state of a record has no part in the notices it is given. -/
theorem noticed_notices_state (v : Lsv) (k : Notice) (r : Lease) (st : LeaseState) :
    (noticed v k { r with state := st }).notices = (noticed v k r).notices := by
  unfold noticed
  split <;> rfl

/-- A set that is empty after a notice was empty before, and the notice was not collected. -/
theorem noticed_notices_ne_zero (v : Lsv) (k : Notice) (r : Lease) :
    (noticed v k r).notices ≠ 0 ↔ r.notices ≠ 0 ∨ v.collects r k = true := by
  by_cases h : v.collects r k = true
  · rw [noticed_pos h]
    exact iff_of_true (NoticeSet.add_ne_zero _ _) (.inr h)
  · rw [noticed_neg h]
    simp [h]

/-- The records after a notice, in the words of the statements. -/
theorem addNotice_lease_eq (v : Lsv) (l j : LeaseNo) (k : Notice) :
    (v.addNotice l k).leases[j] = if j = l then noticed v k v.leases[j] else v.leases[j] := by
  rw [Lsv.addNotice_lease]
  by_cases hj : j = l
  · subst hj
    by_cases hc : v.collects v.leases[j] k = true
    · rw [if_pos ⟨rfl, hc⟩, if_pos rfl, noticed_pos hc]
    · rw [if_neg fun x => hc x.2, if_pos rfl, noticed_neg hc]
  · rw [if_neg fun x => hj x.1.symm, if_neg hj]

/-- Those of the leases `ls` that a notice of kind `k` brings onto the attention list. -/
def joining (v : Lsv) (k : Notice) (ls : List LeaseNo) : List LeaseNo :=
  ls.filter fun l => v.leases[l].notices == 0 && (noticed v k v.leases[l]).notices != 0

theorem joined_eq (v : Lsv) (k : Notice) (ls : List LeaseNo) : joined v k ls = v.attention ++ joining v k ls := rfl

theorem joins_iff (v : Lsv) (k : Notice) (r : Lease) :
    (r.notices == 0 && (noticed v k r).notices != 0) = true ↔ v.collects r k = true ∧ r.notices = 0 := by
  rw [Bool.and_eq_true, beq_iff_eq, bne_iff_ne, noticed_notices_ne_zero]
  tauto

theorem joining_cons (v : Lsv) (k : Notice) (l : LeaseNo) (ls : List LeaseNo) :
    joining v k (l :: ls) =
      (if v.collects v.leases[l] k = true ∧ v.leases[l].notices = 0 then [l] else []) ++ joining v k ls := by
  unfold joining
  rw [List.filter_cons]
  by_cases h : v.collects v.leases[l] k = true ∧ v.leases[l].notices = 0
  · rw [if_pos h, if_pos ((joins_iff v k _).mpr h)]
    rfl
  · rw [if_neg h, if_neg (mt (joins_iff v k _).mp h)]
    rfl

/-- The attention list after a notice, in the words of the statements (R158). -/
theorem addNotice_attention_eq (v : Lsv) (l : LeaseNo) (k : Notice) :
    (v.addNotice l k).attention = v.attention ++ joining v k [l] := by
  rw [Lsv.addNotice_attention, joining_cons]
  split <;> simp [joining]

/-! ### A turn of each lease of a list -/

/-- A record after its turn: the state that `f` gives it, and a notice of kind `k`. -/
def afterTurn (f : Lease → LeaseState) (k : Notice) (v : Lsv) (r : Lease) : Lease := noticed v k { r with state := f r }

theorem afterTurn_congr (f : Lease → LeaseState) (k : Notice) {v w : Lsv} (h : w.groups = v.groups) (r : Lease) :
    afterTurn f k w r = afterTurn f k v r :=
  noticed_congr h k _

theorem changeLease_lease_eq (f : Lease → LeaseState) (k : Notice) (v : Lsv) (l j : LeaseNo) :
    (changeLease f k v l).leases[j] = if j = l then afterTurn f k v v.leases[j] else v.leases[j] := by
  unfold changeLease afterTurn
  rw [addNotice_lease_eq, noticed_congr (Lsv.setLease_groups _ _ _), Lsv.setLease_leases]
  by_cases hj : j = l
  · subst hj
    rw [if_pos rfl, if_pos rfl, upd_get_self]
  · rw [if_neg hj, if_neg hj, upd_get_other _ (Ne.symm hj)]

theorem changeLease_groups (f : Lease → LeaseState) (k : Notice) (v : Lsv) (l : LeaseNo) :
    (changeLease f k v l).groups = v.groups := by
  rw [changeLease_frame]

theorem changeLease_attention_eq (f : Lease → LeaseState) (k : Notice) (v : Lsv) (l : LeaseNo) :
    (changeLease f k v l).attention = v.attention ++ joining v k [l] := by
  rw [changeLease_attention, joining_cons]
  split <;> simp [joining]

/-- The turns touch records and attention list alone. -/
theorem changeAll_frame (f : Lease → LeaseState) (k : Notice) (ls : List LeaseNo) (v : Lsv) :
    ls.foldl (changeLease f k) v =
      { v with leases := (ls.foldl (changeLease f k) v).leases, attention := (ls.foldl (changeLease f k) v).attention } := by
  induction ls generalizing v with
  | nil => rfl
  | cons l ls ih =>
    rw [List.foldl_cons, ih, changeLease_frame]

theorem changeAll_groups (f : Lease → LeaseState) (k : Notice) (ls : List LeaseNo) (v : Lsv) :
    (ls.foldl (changeLease f k) v).groups = v.groups := by
  rw [changeAll_frame]

/-- Each lease of a list without repetition has had its turn once, on its record as it stood at the start. -/
theorem changeAll_lease (f : Lease → LeaseState) (k : Notice) {ls : List LeaseNo} (hn : ls.Nodup) (v : Lsv) (j : LeaseNo) :
    (ls.foldl (changeLease f k) v).leases[j] =
      if j ∈ ls then afterTurn f k v v.leases[j] else v.leases[j] := by
  induction ls generalizing v with
  | nil => rfl
  | cons l ls ih =>
    obtain ⟨hl, hn⟩ := List.nodup_cons.mp hn
    rw [List.foldl_cons, ih hn, changeLease_lease_eq, afterTurn_congr f k (changeLease_groups f k v l)]
    by_cases hj : j = l
    · subst hj
      rw [if_neg hl, if_pos rfl, if_pos List.mem_cons_self]
    · simp only [List.mem_cons, hj, false_or, if_false]

/-- Those that join the attention list are found on the tables as they stood at the start (R158). -/
theorem changeAll_attention (f : Lease → LeaseState) (k : Notice) {ls : List LeaseNo} (hn : ls.Nodup) (v : Lsv) :
    (ls.foldl (changeLease f k) v).attention = v.attention ++ joining v k ls := by
  induction ls generalizing v with
  | nil => simp [joining]
  | cons l ls ih =>
    obtain ⟨hl, hn⟩ := List.nodup_cons.mp hn
    have hrest : joining (changeLease f k v l) k ls = joining v k ls := by
      refine List.filter_congr fun j hj => ?_
      have hne : j ≠ l := fun h => hl (h ▸ hj)
      rw [noticed_congr (changeLease_groups f k v l), changeLease_lease_eq, if_neg hne]
    rw [List.foldl_cons, ih hn, hrest, changeLease_attention_eq, List.append_assoc, joining, joining, ← List.filter_append]
    rfl

/-! ### The listeners at a change of talker (R18, R56) -/

/-- The state of a listener after its turn: `old` becomes `new`, any other state stays. -/
def turned (old new : LeaseState) (r : Lease) : LeaseState := if r.state = old then new else r.state

theorem withTalkerChange_eq (v : Lsv) (r : Lease) : withTalkerChange v r = noticed v .talkerChange r := rfl

theorem talkerJoined_eq (v : Lsv) (ls : List LeaseNo) : talkerJoined v ls = joining v .talkerChange ls := rfl

/-- A record written back as it stands changes nothing. -/
theorem setLease_self (v : Lsv) (l : LeaseNo) : v.setLease l v.leases[l] = v := by
  show { v with leases := upd v.leases l v.leases[l] } = v
  rw [upd_same]

/-- A listener's turn on the tables is a turn of its lease with TALKER_CHANGE. -/
theorem moveListener_fst (sc : Option Scope) (old new : LeaseState) (third : Fin 128) (acc : Lsv × List Unsolicited)
    (l : LeaseNo) :
    (moveListener sc old new third acc l).1 = changeLease (turned old new) .talkerChange acc.1 l := by
  unfold moveListener changeLease turned
  dsimp only
  by_cases hs : acc.1.leases[l].state = old
  · rw [if_pos hs, if_pos hs]
  · rw [if_neg hs, if_neg hs]
    exact congrArg (Lsv.addNotice · l .talkerChange) (setLease_self acc.1 l).symm

theorem moveAll_fst (sc : Option Scope) (old new : LeaseState) (third : Fin 128) (ls : List LeaseNo)
    (acc : Lsv × List Unsolicited) :
    (ls.foldl (moveListener sc old new third) acc).1 =
      ls.foldl (changeLease (turned old new) .talkerChange) acc.1 := by
  induction ls generalizing acc with
  | nil => rfl
  | cons l ls ih => rw [List.foldl_cons, ih, moveListener_fst, List.foldl_cons]

/-- The model's test for the listeners that are sent STATUS. -/
def isTold (v : Lsv) (sc : Option Scope) (old : LeaseState) (l : LeaseNo) : Bool :=
  v.leases[l].state == old && v.leases[l].origin == .signaled && !inScope sc v.leases[l]

theorem isTold_iff (v : Lsv) (sc : Option Scope) (old : LeaseState) (l : LeaseNo) :
    isTold v sc old l = true ↔
      v.leases[l].state = old ∧ v.leases[l].origin = .signaled ∧ inScope sc v.leases[l] = false := by
  simp [isTold, and_assoc]

/-- It is the test of the statements: for a SIGNALED lease the scope's selection of HOST leases does not matter. -/
theorem told_eq (v : Lsv) (sc : Option Scope) (old : LeaseState) (ls : List LeaseNo) :
    told v sc old ls = ls.filter (isTold v sc old) := by
  refine List.filter_congr fun l _ => ?_
  unfold isTold
  by_cases ho : v.leases[l].origin = .signaled
  · cases sc with
    | none => rfl
    | some x =>
      obtain ⟨reach, pinned, host⟩ := x
      cases reach <;> simp only [inScope, Scope.includes, Reach.covers, ho, beq_self_eq_true, Bool.true_or, Bool.and_true]
  · have ho' : (v.leases[l].origin == .signaled) = false := beq_eq_false_iff_ne.mpr ho
    rw [ho', Bool.and_false, Bool.false_and, Bool.false_and]

theorem told_cons (v : Lsv) (sc : Option Scope) (old : LeaseState) (l : LeaseNo) (ls : List LeaseNo) :
    told v sc old (l :: ls) =
      (if v.leases[l].state = old ∧ v.leases[l].origin = .signaled ∧ inScope sc v.leases[l] = false then [l] else []) ++
        told v sc old ls := by
  rw [told_eq, told_eq, List.filter_cons]
  simp only [isTold_iff]
  split <;> rfl

/-- Who is told depends on the records of the listeners and on nothing else of the tables. -/
theorem told_congr {v w : Lsv} (sc : Option Scope) (old : LeaseState) {ls : List LeaseNo}
    (h : ∀ l ∈ ls, w.leases[l] = v.leases[l]) : told w sc old ls = told v sc old ls :=
  List.filter_congr fun l hl => by rw [h l hl]

theorem toldReplies_congr {v w : Lsv} (sc : Option Scope) (old new : LeaseState) (third : Fin 128) {ls : List LeaseNo}
    (h : ∀ l ∈ ls, w.leases[l] = v.leases[l]) :
    (told w sc old ls).map (listenerStatus w new third) = (told v sc old ls).map (listenerStatus v new third) := by
  rw [told_congr sc old h]
  refine List.map_congr_left fun l hl => ?_
  rw [listenerStatus, h l (List.mem_filter.mp hl).1, listenerStatus]

theorem moveListener_snd (sc : Option Scope) (old new : LeaseState) (third : Fin 128) (acc : Lsv × List Unsolicited)
    (l : LeaseNo) :
    (moveListener sc old new third acc l).2 =
      acc.2 ++ (told acc.1 sc old [l]).map (listenerStatus acc.1 new third) := by
  rw [told_cons]
  unfold moveListener
  dsimp only
  by_cases hs : acc.1.leases[l].state = old
  · rw [if_pos hs]
    by_cases ht : acc.1.leases[l].origin = .signaled ∧ inScope sc acc.1.leases[l] = false
    · rw [if_pos (by simpa using ht), if_pos ⟨hs, ht⟩]
      rfl
    · rw [if_neg (by simpa using ht), if_neg fun x => ht x.2]
      simp [told]
  · rw [if_neg hs, if_neg fun x => hs x.1]
    simp [told]

/-- The STATUS replies go in list order to those told, on their records as they stood at the start (R65). -/
theorem moveAll_snd (sc : Option Scope) (old new : LeaseState) (third : Fin 128) {ls : List LeaseNo} (hn : ls.Nodup)
    (acc : Lsv × List Unsolicited) :
    (ls.foldl (moveListener sc old new third) acc).2 =
      acc.2 ++ (told acc.1 sc old ls).map (listenerStatus acc.1 new third) := by
  induction ls generalizing acc with
  | nil => simp [told]
  | cons l ls ih =>
    obtain ⟨hl, hn⟩ := List.nodup_cons.mp hn
    have hrest : ∀ j ∈ ls, (moveListener sc old new third acc l).1.leases[j] = acc.1.leases[j] :=
      fun j hj => moveListener_other sc old new third acc fun h => hl (h ▸ hj)
    rw [List.foldl_cons, ih hn, toldReplies_congr sc old new third hrest, moveListener_snd, told_cons, told_cons _ _ _ l ls,
      List.append_assoc, ← List.map_append, List.append_assoc]
    rfl

/-- The replacement of a talker gives TALKER_CHANGE alone: a turn that leaves the state. -/
theorem replacedTalker_eq (v : Lsv) (g : GroupNo) :
    v.replacedTalker g = v.groups[g].listeners.foldl (changeLease (fun r => r.state) .talkerChange) v := by
  have hturn : (fun (w : Lsv) (l : LeaseNo) => w.addNotice l .talkerChange) =
      changeLease (fun r => r.state) .talkerChange := by
    funext w l
    exact congrArg (Lsv.addNotice · l .talkerChange) (setLease_self w l).symm
  rw [Lsv.replacedTalker, hturn]

theorem attachListeners_fst (v : Lsv) (sc : Option Scope) (g : GroupNo) (sl : SlotNo) :
    (v.attachListeners sc g sl).1 =
      v.groups[g].listeners.foldl (changeLease (turned .waiting .active) .talkerChange) v :=
  moveAll_fst sc .waiting .active sl _ _

theorem detachListeners_fst (v : Lsv) (sc : Option Scope) (g : GroupNo) :
    (v.detachListeners sc g).1 =
      v.groups[g].listeners.foldl (changeLease (turned .active .waiting) .talkerChange) v :=
  moveAll_fst sc .active .waiting 0 _ _

/-- A listener's record after its turn, in the words of the statements. -/
theorem afterTurn_turned (old new : LeaseState) (v : Lsv) (r : Lease) :
    afterTurn (turned old new) .talkerChange v r =
      withTalkerChange v (if r.state = old then { r with state := new } else r) := by
  unfold afterTurn turned
  split <;> rfl

/-- Settles O13, by the turns of a list of leases. -/
theorem listenersFollowTalker : Obligations.ListenersFollowTalker := by
  intro v sc g sl hn
  refine ⟨fun j => ?_, moveAll_snd sc .waiting .active sl hn _, fun j => ?_, moveAll_snd sc .active .waiting 0 hn _,
    fun j => ?_, ?_, ?_, ?_, ?_, ?_, ?_, ?_, ?_, ?_⟩
  · rw [attachListeners_fst, changeAll_lease _ _ hn, afterTurn_turned]
  · rw [detachListeners_fst, changeAll_lease _ _ hn, afterTurn_turned]
  · rw [replacedTalker_eq, changeAll_lease _ _ hn]
    rfl
  · rw [attachListeners_fst, changeAll_attention _ _ hn, talkerJoined_eq]
  · rw [detachListeners_fst, changeAll_attention _ _ hn, talkerJoined_eq]
  · rw [replacedTalker_eq, changeAll_attention _ _ hn, talkerJoined_eq]
  · rw [attachListeners_fst, changeAll_frame]
  · rw [detachListeners_fst, changeAll_frame]
  · rw [attachListeners_fst, changeAll_frame]
  · rw [detachListeners_fst, changeAll_frame]
  · rw [attachListeners_fst, changeAll_frame]
  · rw [detachListeners_fst, changeAll_frame]

end Sys2Proof.Spec
end

section
/-! PROOF. Creation and retirement (R9, R12, R16 to R22, R25, R30, R55, R56, R58, R60, R158): what each does to records, channel
map, groups, slots, attention list and tap, field by field; O11 and O12. -/

namespace Sys2Proof.Spec

open Sys2Proof.Machine

/-- Replacing an entry by one that a function does not tell from it changes that function of no entry. -/
theorem upd_get_apply {α β : Type} {n : Nat} (f : α → β) {v : Vector α n} {i : Fin n} {x : α} (h : f x = f v[i])
    (j : Fin n) : f (upd v i x)[j] = f v[j] := by
  rw [upd_get]
  split
  · next hij => subst hij; exact h
  · rfl

/-! ### A group that a lease joins or leaves (R55, R60) -/

/-- The group record after lease `n` of kind `k` has joined it. -/
def joinedGroup (gr : Group) (k : LeaseKind) (n : LeaseNo) : Group :=
  match k with
  | .duplex => gr
  | .talk => { gr with talker := some n }
  | .listen => { gr with listeners := gr.listeners ++ [n] }

/-- The group record after lease `l` of kind `k` has left it. -/
def leftGroup (gr : Group) (k : LeaseKind) (l : LeaseNo) : Group :=
  match k with
  | .duplex => gr
  | .talk => { gr with talker := none }
  | .listen => { gr with listeners := gr.listeners.erase l }

/-! ### The parts of a creation -/

theorem changeAll_untouched (f : Lease → LeaseState) (k : Notice) {ls : List LeaseNo} {v : Lsv} {j : LeaseNo} (h : j ∉ ls) :
    (ls.foldl (changeLease f k) v).leases[j] = v.leases[j] := by
  induction ls generalizing v with
  | nil => rfl
  | cons l ls ih =>
    rw [List.foldl_cons, ih fun hj => h (List.mem_cons_of_mem l hj),
      changeLease_other f k v fun hj => h (List.mem_cons.mpr (.inl hj.symm))]

/-- The turn of the listeners of the group that a new talker joins: by where its slot comes from. -/
def arrivalTurn (ns : NewSlot) : Lease → LeaseState :=
  match ns with
  | .taken _ => turned .waiting .active
  | .passed _ | .absent => fun r => r.state

/-- The listeners that a new lease of kind `k` gives a turn. -/
def arrivalList (gr : Group) (ns : NewSlot) (k : LeaseKind) : List LeaseNo :=
  if k = .talk ∧ ns ≠ .absent then gr.listeners else []

theorem mem_arrivalList {gr : Group} {ns : NewSlot} {k : LeaseKind} {l : LeaseNo} :
    l ∈ arrivalList gr ns k ↔ (k = .talk ∧ ns ≠ .absent) ∧ l ∈ gr.listeners := by
  unfold arrivalList
  split
  · next h => simp [h]
  · next h => simp [h]

theorem arrivalList_nodup {gr : Group} (h : gr.listeners.Nodup) (ns : NewSlot) (k : LeaseKind) :
    (arrivalList gr ns k).Nodup := by
  unfold arrivalList
  split
  · exact h
  · exact List.nodup_nil

/-- Joining a group: the group record, and the turns of the listeners it gives. -/
theorem joinGroup_fst (v : Lsv) (sc : Option Scope) (ns : NewSlot) (r : Lease) (n : LeaseNo) :
    (v.joinGroup sc ns r n).1 =
      (arrivalList v.groups[r.group] ns r.kind).foldl (changeLease (arrivalTurn ns) .talkerChange)
        (v.setGroup r.group (joinedGroup v.groups[r.group] r.kind n)) := by
  have hlisteners : ((v.setGroup r.group { v.groups[r.group] with talker := some n }).groups[r.group]).listeners =
      v.groups[r.group].listeners := by
    rw [Lsv.setGroup_groups, upd_get_self]
  have hself : v.setGroup r.group v.groups[r.group] = v := by
    show { v with groups := upd v.groups r.group v.groups[r.group] } = v
    rw [upd_same]
  unfold Lsv.joinGroup
  cases r.kind with
  | duplex => exact hself.symm
  | listen => rfl
  | talk =>
    cases ns with
    | absent => rfl
    | taken sl =>
      refine (attachListeners_fst _ sc r.group sl).trans ?_
      rw [hlisteners]
      rfl
    | passed sl =>
      refine (replacedTalker_eq _ r.group).trans ?_
      rw [hlisteners]
      rfl

/-- The tables of a creation before the listeners' turns. -/
def seated (v : Lsv) (fault : Bool) (ns : NewSlot) (r : Lease) (n : LeaseNo) : Lsv :=
  (((v.joinSlot ns n).setLease n { r with state := v.newState fault r.kind r.group, slot := ns.slot }).bind r.port r.channel
    (some n)).setGroup r.group (joinedGroup v.groups[r.group] r.kind n)

@[simp] theorem joinSlot_leases (v : Lsv) (ns : NewSlot) (n : LeaseNo) : (v.joinSlot ns n).leases = v.leases := by
  cases ns <;> simp [Lsv.joinSlot]

@[simp] theorem joinSlot_chanMap (v : Lsv) (ns : NewSlot) (n : LeaseNo) : (v.joinSlot ns n).chanMap = v.chanMap := by
  cases ns <;> simp [Lsv.joinSlot]

@[simp] theorem joinSlot_groups (v : Lsv) (ns : NewSlot) (n : LeaseNo) : (v.joinSlot ns n).groups = v.groups := by
  cases ns <;> simp [Lsv.joinSlot]

@[simp] theorem joinSlot_tap (v : Lsv) (ns : NewSlot) (n : LeaseNo) : (v.joinSlot ns n).tap = v.tap := by
  cases ns <;> simp [Lsv.joinSlot]

@[simp] theorem joinSlot_attention (v : Lsv) (ns : NewSlot) (n : LeaseNo) : (v.joinSlot ns n).attention = v.attention := by
  cases ns <;> simp [Lsv.joinSlot]

@[simp] theorem joinSlot_quarantine (v : Lsv) (ns : NewSlot) (n : LeaseNo) :
    (v.joinSlot ns n).quarantine = v.quarantine := by
  cases ns with
  | taken sl => simp only [Lsv.joinSlot, Lsv.takeSlot]; split <;> rfl
  | absent | passed => rfl

@[simp] theorem joinSlot_guardSetting (v : Lsv) (ns : NewSlot) (n : LeaseNo) :
    (v.joinSlot ns n).guardSetting = v.guardSetting := by
  cases ns with
  | taken sl => simp only [Lsv.joinSlot, Lsv.takeSlot]; split <;> rfl
  | absent | passed => rfl

theorem takeSlot_free {v : Lsv} {sl : SlotNo} (h : v.slots[sl].state = .free) (n : LeaseNo) :
    (v.takeSlot sl n).slots = upd v.slots sl { state := .held, home := some .pool, holder := some n, guard := none } ∧
      (v.takeSlot sl n).freeList = v.freeList.erase sl := by
  rw [Lsv.takeSlot, if_neg (by rw [h]; exact nofun)]
  exact ⟨rfl, rfl⟩

theorem takeSlot_reserved {v : Lsv} {sl : SlotNo} (h : v.slots[sl].state = .reserved) (n : LeaseNo) :
    (v.takeSlot sl n).slots = upd v.slots sl { state := .held, home := some .reserved, holder := some n, guard := none } ∧
      (v.takeSlot sl n).freeList = v.freeList := by
  rw [Lsv.takeSlot, if_pos h]
  exact ⟨rfl, rfl⟩

/-- A creation seats the lease and gives the listeners of its group their turns. -/
theorem create_fst (v : Lsv) (sc : Option Scope) (fault : Bool) (ns : NewSlot) (r : Lease) (n : LeaseNo) :
    (v.create sc fault ns r n).1 =
      (arrivalList v.groups[r.group] ns r.kind).foldl (changeLease (arrivalTurn ns) .talkerChange)
        (seated v fault ns r n) := by
  unfold Lsv.create
  rw [joinGroup_fst]
  simp only [Lsv.bind_groups, Lsv.setLease_groups, joinSlot_groups]
  rfl

/-! ### A creation, field by field -/

/-- Records and attention list apart, a creation leaves the tables with the lease seated. -/
theorem create_frame (v : Lsv) (sc : Option Scope) (fault : Bool) (ns : NewSlot) (r : Lease) (n : LeaseNo) :
    (v.create sc fault ns r n).1 = { seated v fault ns r n with
      leases := (v.create sc fault ns r n).1.leases, attention := (v.create sc fault ns r n).1.attention } := by
  rw [create_fst, changeAll_frame]

theorem create_slots (v : Lsv) (sc : Option Scope) (fault : Bool) (ns : NewSlot) (r : Lease) (n : LeaseNo) :
    (v.create sc fault ns r n).1.slots = (v.joinSlot ns n).slots := by
  rw [create_frame]
  rfl

theorem create_freeList (v : Lsv) (sc : Option Scope) (fault : Bool) (ns : NewSlot) (r : Lease) (n : LeaseNo) :
    (v.create sc fault ns r n).1.freeList = (v.joinSlot ns n).freeList := by
  rw [create_frame]
  rfl

theorem create_quarantine (v : Lsv) (sc : Option Scope) (fault : Bool) (ns : NewSlot) (r : Lease) (n : LeaseNo) :
    (v.create sc fault ns r n).1.quarantine = v.quarantine := by
  rw [create_frame]
  exact joinSlot_quarantine v ns n

theorem create_guardSetting (v : Lsv) (sc : Option Scope) (fault : Bool) (ns : NewSlot) (r : Lease) (n : LeaseNo) :
    (v.create sc fault ns r n).1.guardSetting = v.guardSetting := by
  rw [create_frame]
  exact joinSlot_guardSetting v ns n

theorem create_tap (v : Lsv) (sc : Option Scope) (fault : Bool) (ns : NewSlot) (r : Lease) (n : LeaseNo) :
    (v.create sc fault ns r n).1.tap = v.tap := by
  rw [create_frame]
  exact joinSlot_tap v ns n

theorem create_entry (v : Lsv) (sc : Option Scope) (fault : Bool) (ns : NewSlot) (r : Lease) (n : LeaseNo) (p : PortNo)
    (c : ChanNo) :
    (v.create sc fault ns r n).1.entry p c = if p = r.port ∧ c = r.channel then some n else v.entry p c := by
  have hseated : (seated v fault ns r n).entry p c = if p = r.port ∧ c = r.channel then some n else v.entry p c := by
    unfold seated
    rw [Lsv.entry_setGroup, Lsv.entry_bind, Lsv.entry_setLease]
    simp only [Lsv.entry, joinSlot_chanMap, eq_comm]
  rw [create_frame]
  exact hseated

theorem create_groups (v : Lsv) (sc : Option Scope) (fault : Bool) (ns : NewSlot) (r : Lease) (n : LeaseNo) :
    (v.create sc fault ns r n).1.groups = upd v.groups r.group (joinedGroup v.groups[r.group] r.kind n) := by
  have hseated : (seated v fault ns r n).groups = upd v.groups r.group (joinedGroup v.groups[r.group] r.kind n) := by
    simp [seated]
  rw [create_frame]
  exact hseated

theorem create_group_self (v : Lsv) (sc : Option Scope) (fault : Bool) (ns : NewSlot) (r : Lease) (n : LeaseNo) :
    (v.create sc fault ns r n).1.groups[r.group] = joinedGroup v.groups[r.group] r.kind n := by
  rw [create_groups, upd_get_self]

theorem create_group_other (v : Lsv) (sc : Option Scope) (fault : Bool) (ns : NewSlot) (r : Lease) (n : LeaseNo)
    {g : GroupNo} (h : g ≠ r.group) : (v.create sc fault ns r n).1.groups[g] = v.groups[g] := by
  rw [create_groups, upd_get_other _ (Ne.symm h)]

theorem seated_leases (v : Lsv) (fault : Bool) (ns : NewSlot) (r : Lease) (n : LeaseNo) :
    (seated v fault ns r n).leases =
      upd v.leases n { r with state := v.newState fault r.kind r.group, slot := ns.slot } := by
  simp [seated]

theorem seated_lease_other (v : Lsv) (fault : Bool) (ns : NewSlot) (r : Lease) {n j : LeaseNo} (h : j ≠ n) :
    (seated v fault ns r n).leases[j] = v.leases[j] := by
  rw [seated_leases, upd_get_other _ (Ne.symm h)]

theorem seated_attention (v : Lsv) (fault : Bool) (ns : NewSlot) (r : Lease) (n : LeaseNo) :
    (seated v fault ns r n).attention = v.attention := by
  simp [seated]

/-- A group's notice mask does not change when a lease joins it. -/
theorem seated_collects (v : Lsv) (fault : Bool) (ns : NewSlot) (r : Lease) (n : LeaseNo) (x : Lease) (k : Notice) :
    (seated v fault ns r n).collects x k = v.collects x k := by
  have hmask : (upd v.groups r.group (joinedGroup v.groups[r.group] r.kind n))[x.group].mask = v.groups[x.group].mask := by
    exact upd_get_apply Group.mask (by cases r.kind <;> rfl) _
  have hseated : (seated v fault ns r n).groups = upd v.groups r.group (joinedGroup v.groups[r.group] r.kind n) := by
    simp [seated]
  rw [Lsv.collects, hseated, hmask, Lsv.collects]

theorem noticed_collects {v w : Lsv} {k : Notice} {r : Lease} (h : w.collects r k = v.collects r k) :
    noticed w k r = noticed v k r := by
  by_cases hc : v.collects r k = true
  · rw [noticed_pos hc, noticed_pos (h.trans hc)]
  · rw [noticed_neg hc, noticed_neg (h ▸ hc)]

theorem seated_noticed (v : Lsv) (fault : Bool) (ns : NewSlot) (r : Lease) (n : LeaseNo) (x : Lease) (k : Notice) :
    noticed (seated v fault ns r n) k x = noticed v k x :=
  noticed_collects (seated_collects v fault ns r n x k)



/-- The created record, which is no listener of its group. -/
theorem create_lease_self (v : Lsv) (sc : Option Scope) (fault : Bool) (ns : NewSlot) (r : Lease) {n : LeaseNo}
    (h : n ∉ v.groups[r.group].listeners) :
    (v.create sc fault ns r n).1.leases[n] = { r with state := v.newState fault r.kind r.group, slot := ns.slot } := by
  rw [create_fst, changeAll_untouched _ _ fun hn => h (mem_arrivalList.mp hn).2, seated_leases, upd_get_self]

/-- Any other record: those of the listeners have had their turn. -/
theorem create_lease_other (v : Lsv) (sc : Option Scope) (fault : Bool) (ns : NewSlot) (r : Lease) {n j : LeaseNo}
    (hnodup : (arrivalList v.groups[r.group] ns r.kind).Nodup) (h : j ≠ n) :
    (v.create sc fault ns r n).1.leases[j] =
      if j ∈ arrivalList v.groups[r.group] ns r.kind then afterTurn (arrivalTurn ns) .talkerChange v v.leases[j]
      else v.leases[j] := by
  rw [create_fst, changeAll_lease _ _ hnodup, seated_lease_other v fault ns r h]
  simp only [afterTurn, seated_noticed]

/-- A record that is not among the listeners given a turn stays as it is. -/
theorem create_lease_untouched (v : Lsv) (sc : Option Scope) (fault : Bool) (ns : NewSlot) (r : Lease) {n j : LeaseNo}
    (hj : j ∉ arrivalList v.groups[r.group] ns r.kind) (h : j ≠ n) :
    (v.create sc fault ns r n).1.leases[j] = v.leases[j] := by
  rw [create_fst, changeAll_untouched _ _ hj, seated_lease_other v fault ns r h]

theorem create_attention (v : Lsv) (sc : Option Scope) (fault : Bool) (ns : NewSlot) (r : Lease) {n : LeaseNo}
    (hnodup : (arrivalList v.groups[r.group] ns r.kind).Nodup) (h : n ∉ v.groups[r.group].listeners) :
    (v.create sc fault ns r n).1.attention =
      v.attention ++ joining v .talkerChange (arrivalList v.groups[r.group] ns r.kind) := by
  have hjoin : joining (seated v fault ns r n) .talkerChange (arrivalList v.groups[r.group] ns r.kind) =
      joining v .talkerChange (arrivalList v.groups[r.group] ns r.kind) := by
    refine List.filter_congr fun j hj => ?_
    have hne : j ≠ n := fun hjn => h (hjn ▸ (mem_arrivalList.mp hj).2)
    rw [seated_lease_other v fault ns r hne, seated_noticed]
  rw [create_fst, changeAll_attention _ _ hnodup, seated_attention, hjoin]

/-- Only a talker that takes a slot makes replies. -/
theorem create_snd_quiet (v : Lsv) (sc : Option Scope) (fault : Bool) {ns : NewSlot} {r : Lease} (n : LeaseNo)
    (h : r.kind ≠ .talk ∨ ∀ sl, ns ≠ .taken sl) : (v.create sc fault ns r n).2 = [] := by
  unfold Lsv.create Lsv.joinGroup
  dsimp only
  cases hk : r.kind with
  | duplex | listen => rfl
  | talk =>
    cases ns with
    | absent | passed => rfl
    | taken sl => exact (h.elim (· hk) (· sl rfl)).elim

/-- The STATUS replies of an arriving talker that takes a slot (R56). -/
theorem create_snd_taken (v : Lsv) (sc : Option Scope) (fault : Bool) (sl : SlotNo) {r : Lease} {n : LeaseNo}
    (hk : r.kind = .talk) (hnodup : v.groups[r.group].listeners.Nodup) (h : n ∉ v.groups[r.group].listeners) :
    (v.create sc fault (.taken sl) r n).2 =
      (told v sc .waiting v.groups[r.group].listeners).map (listenerStatus v .active sl) := by
  have hsame : ∀ j ∈ v.groups[r.group].listeners, (seated v fault (.taken sl) r n).leases[j] = v.leases[j] :=
    fun j hj => seated_lease_other v fault (.taken sl) r fun hjn => h (hjn ▸ hj)
  have hlisteners : (seated v fault (.taken sl) r n).groups[r.group].listeners = v.groups[r.group].listeners := by
    simp [seated, joinedGroup, hk]
  have hattach : (v.create sc fault (.taken sl) r n).2 =
      ((seated v fault (.taken sl) r n).attachListeners sc r.group sl).2 := by
    unfold Lsv.create Lsv.joinGroup seated joinedGroup
    simp only [hk, Lsv.bind_groups, Lsv.setLease_groups, joinSlot_groups]
  rw [hattach, Lsv.attachListeners, moveAll_snd sc .waiting .active sl (by rw [hlisteners]; exact hnodup), hlisteners,
    List.nil_append, toldReplies_congr sc .waiting .active sl hsame]

/-! ### The parts of a retirement -/

/-- The listeners that a retirement gives a turn: those of a talker that no other replaces (R18). -/
def departureList (gr : Group) (keep : Bool) (k : LeaseKind) : List LeaseNo :=
  if k = .talk ∧ keep = false then gr.listeners else []

theorem mem_departureList {gr : Group} {keep : Bool} {k : LeaseKind} {l : LeaseNo} :
    l ∈ departureList gr keep k ↔ (k = .talk ∧ keep = false) ∧ l ∈ gr.listeners := by
  unfold departureList
  split
  · next h => simp [h]
  · next h => simp [h]

theorem departureList_nodup {gr : Group} (h : gr.listeners.Nodup) (keep : Bool) (k : LeaseKind) :
    (departureList gr keep k).Nodup := by
  unfold departureList
  split
  · exact h
  · exact List.nodup_nil

/-- Leaving a group: the group record, and the turns of the listeners. -/
theorem leaveGroup_fst (v : Lsv) (sc : Option Scope) (keep : Bool) (r : Lease) (l : LeaseNo) :
    (v.leaveGroup sc keep r l).1 =
      (departureList v.groups[r.group] keep r.kind).foldl (changeLease (turned .active .waiting) .talkerChange)
        (v.setGroup r.group (leftGroup v.groups[r.group] r.kind l)) := by
  have hlisteners : ((v.setGroup r.group { v.groups[r.group] with talker := none }).groups[r.group]).listeners =
      v.groups[r.group].listeners := by
    rw [Lsv.setGroup_groups, upd_get_self]
  have hself : v.setGroup r.group v.groups[r.group] = v := by
    show { v with groups := upd v.groups r.group v.groups[r.group] } = v
    rw [upd_same]
  unfold Lsv.leaveGroup
  cases r.kind with
  | duplex => exact hself.symm
  | listen => rfl
  | talk =>
    cases keep with
    | true => rfl
    | false =>
      refine (detachListeners_fst _ sc r.group).trans ?_
      rw [hlisteners]
      rfl

theorem toPool_bind (v : Lsv) (p : PortNo) (c : ChanNo) (e : Option LeaseNo) (sl : SlotNo) :
    (v.bind p c e).toPool sl = (v.toPool sl).bind p c e := by
  by_cases h : v.guardSetting = 0
  · rw [Lsv.toPool_unguarded h, Lsv.toPool_unguarded (v := v.bind p c e) h]
    rfl
  · rw [Lsv.toPool_guarded h, Lsv.toPool_guarded (v := v.bind p c e) h]
    rfl

theorem giveUp_reserved {v : Lsv} {sl : SlotNo} (h : v.slots[sl].home = some .reserved) :
    v.giveUp sl = v.setSlot sl SlotRec.reserved :=
  if_pos h

theorem giveUp_pool {v : Lsv} {sl : SlotNo} (h : v.slots[sl].home ≠ some .reserved) : v.giveUp sl = v.toPool sl :=
  if_neg h

theorem giveUp_bind (v : Lsv) (p : PortNo) (c : ChanNo) (e : Option LeaseNo) (sl : SlotNo) :
    (v.bind p c e).giveUp sl = (v.giveUp sl).bind p c e := by
  by_cases h : v.slots[sl].home = some .reserved
  · rw [giveUp_reserved h, giveUp_reserved (v := v.bind p c e) h]
    rfl
  · rw [giveUp_pool h, giveUp_pool (v := v.bind p c e) h, toPool_bind]

/-- Giving up a slot and unbinding a channel touch different tables. -/
theorem leaveSlot_bind (v : Lsv) (p : PortNo) (c : ChanNo) (e : Option LeaseNo) (keep : Bool) (r : Lease) :
    (v.bind p c e).leaveSlot keep r = (v.leaveSlot keep r).bind p c e := by
  unfold Lsv.leaveSlot
  cases r.slot with
  | none => rfl
  | some sl =>
    cases keep with
    | true => rfl
    | false => exact giveUp_bind v p c e sl

/-- The tables of a retirement before the listeners' turns. -/
def vacated (v : Lsv) (keep : Bool) (l : LeaseNo) : Lsv :=
  ((v.leaveSlot keep v.leases[l]).bind v.leases[l].port v.leases[l].channel none).setGroup v.leases[l].group
    (leftGroup v.groups[v.leases[l].group] v.leases[l].kind l)

/-- The tables of a retirement after the listeners' turns, before the tap and the record (R18). -/
def departing (v : Lsv) (keep : Bool) (l : LeaseNo) : Lsv :=
  (departureList v.groups[v.leases[l].group] keep v.leases[l].kind).foldl
    (changeLease (turned .active .waiting) .talkerChange) (vacated v keep l)

theorem retire_lsv (v : Lsv) (sc : Option Scope) (cause : RetireCause) (keep : Bool) (l : LeaseNo) :
    (v.retire sc cause keep l).lsv = ((departing v keep l).leaveTap l).endRecord cause l := by
  unfold Lsv.retire departing vacated
  simp only [leaveGroup_fst, leaveSlot_bind, Lsv.bind_groups, Lsv.leaveSlot_groups]

/-- A record with the notice of the cause (R22). -/
def noticedBy (v : Lsv) (cause : RetireCause) (r : Lease) : Lease :=
  match cause.notice with
  | none => r
  | some k => noticed v k r

/-- Those of the leases `ls` that the notice of the cause brings onto the attention list. -/
def joiningBy (v : Lsv) (cause : RetireCause) (ls : List LeaseNo) : List LeaseNo :=
  match cause.notice with
  | none => []
  | some k => joining v k ls

theorem endRecord_lease (v : Lsv) (cause : RetireCause) (l j : LeaseNo) :
    (v.endRecord cause l).leases[j] = if j = l then (noticedBy v cause v.leases[l]).ended cause else v.leases[j] := by
  unfold Lsv.endRecord noticedBy
  by_cases hj : j = l
  · subst hj
    rw [if_pos rfl, Lsv.setLease_leases, upd_get_self]
    cases cause.notice with
    | none => rfl
    | some k =>
      dsimp only
      rw [addNotice_lease_eq, if_pos rfl]
  · rw [if_neg hj, Lsv.setLease_leases, upd_get_other _ (Ne.symm hj)]
    cases cause.notice with
    | none => rfl
    | some k => exact Lsv.addNotice_other v k (Ne.symm hj)

theorem endRecord_attention (v : Lsv) (cause : RetireCause) (l : LeaseNo) :
    (v.endRecord cause l).attention = v.attention ++ joiningBy v cause [l] := by
  unfold Lsv.endRecord joiningBy
  rw [Lsv.setLease_attention]
  cases cause.notice with
  | none => exact (List.append_nil _).symm
  | some k => exact addNotice_attention_eq v l k

/-- The end of a record touches records and attention list alone. -/
theorem endRecord_frame (v : Lsv) (cause : RetireCause) (l : LeaseNo) :
    v.endRecord cause l =
      { v with leases := (v.endRecord cause l).leases, attention := (v.endRecord cause l).attention } := by
  unfold Lsv.endRecord
  cases cause.notice with
  | none => rfl
  | some k =>
    unfold Lsv.addNotice
    dsimp only
    split <;> rfl

/-- The tap's side touches the tap alone. -/
theorem leaveTap_frame (v : Lsv) (l : LeaseNo) : v.leaveTap l = { v with tap := (v.leaveTap l).tap } := by
  unfold Lsv.leaveTap
  split <;> rfl

theorem leaveTap_leases (v : Lsv) (l : LeaseNo) : (v.leaveTap l).leases = v.leases := by rw [leaveTap_frame]

theorem leaveTap_groups (v : Lsv) (l : LeaseNo) : (v.leaveTap l).groups = v.groups := by rw [leaveTap_frame]

theorem leaveTap_attention (v : Lsv) (l : LeaseNo) : (v.leaveTap l).attention = v.attention := by rw [leaveTap_frame]

theorem feedsTap_iff (v : Lsv) (l : LeaseNo) : v.feedsTap l = true ↔ v.tap.state = .on ∧ v.tap.source = some l := by
  simp [Lsv.feedsTap]

/-- The turns of the listeners touch records and attention list alone. -/
theorem departing_frame (v : Lsv) (keep : Bool) (l : LeaseNo) :
    departing v keep l = { vacated v keep l with
      leases := (departing v keep l).leases, attention := (departing v keep l).attention } :=
  changeAll_frame _ _ _ _

theorem vacated_leases (v : Lsv) (keep : Bool) (l : LeaseNo) : (vacated v keep l).leases = v.leases := by
  simp [vacated]

theorem vacated_attention (v : Lsv) (keep : Bool) (l : LeaseNo) : (vacated v keep l).attention = v.attention := by
  simp [vacated]

theorem vacated_groups (v : Lsv) (keep : Bool) (l : LeaseNo) :
    (vacated v keep l).groups =
      upd v.groups v.leases[l].group (leftGroup v.groups[v.leases[l].group] v.leases[l].kind l) := by
  simp [vacated]

theorem vacated_tap (v : Lsv) (keep : Bool) (l : LeaseNo) : (vacated v keep l).tap = v.tap := by
  simp [vacated]

theorem vacated_noticed (v : Lsv) (keep : Bool) (l : LeaseNo) (k : Notice) (x : Lease) :
    noticed (vacated v keep l) k x = noticed v k x := by
  refine noticed_collects ?_
  rw [Lsv.collects, vacated_groups, upd_get_apply Group.mask (by cases v.leases[l].kind <;> rfl), Lsv.collects]

theorem departing_noticed (v : Lsv) (keep : Bool) (l : LeaseNo) (k : Notice) (x : Lease) :
    noticed (departing v keep l) k x = noticed v k x := by
  rw [departing, noticed_congr (changeAll_groups _ _ _ _), vacated_noticed]

theorem departing_lease_untouched (v : Lsv) (keep : Bool) {l j : LeaseNo}
    (h : j ∉ departureList v.groups[v.leases[l].group] keep v.leases[l].kind) :
    (departing v keep l).leases[j] = v.leases[j] := by
  rw [departing, changeAll_untouched _ _ h, vacated_leases]

theorem departing_lease (v : Lsv) (keep : Bool) {l : LeaseNo}
    (hnodup : (departureList v.groups[v.leases[l].group] keep v.leases[l].kind).Nodup) (j : LeaseNo) :
    (departing v keep l).leases[j] =
      if j ∈ departureList v.groups[v.leases[l].group] keep v.leases[l].kind
      then afterTurn (turned .active .waiting) .talkerChange v v.leases[j] else v.leases[j] := by
  rw [departing, changeAll_lease _ _ hnodup, vacated_leases]
  simp only [afterTurn, vacated_noticed]

theorem departing_attention (v : Lsv) (keep : Bool) {l : LeaseNo}
    (hnodup : (departureList v.groups[v.leases[l].group] keep v.leases[l].kind).Nodup) :
    (departing v keep l).attention =
      v.attention ++
        joining v .talkerChange (departureList v.groups[v.leases[l].group] keep v.leases[l].kind) := by
  rw [departing, changeAll_attention _ _ hnodup, vacated_attention]
  simp only [joining, vacated_leases, vacated_noticed]

/-! ### A retirement, field by field -/

/-- Records, attention list and tap apart, a retirement leaves the tables with the lease's place vacated. -/
theorem retire_frame (v : Lsv) (sc : Option Scope) (cause : RetireCause) (keep : Bool) (l : LeaseNo) :
    (v.retire sc cause keep l).lsv = { vacated v keep l with
      leases := (v.retire sc cause keep l).lsv.leases, attention := (v.retire sc cause keep l).lsv.attention
      tap := (v.leaveTap l).tap } := by
  have htap : ((departing v keep l).leaveTap l).tap = (v.leaveTap l).tap := by
    have hd : (departing v keep l).tap = v.tap := by rw [departing_frame, vacated_tap]
    unfold Lsv.leaveTap Lsv.feedsTap
    rw [hd]
    split <;> simp only [hd]
  rw [retire_lsv, endRecord_frame, ← htap, leaveTap_frame, departing_frame]

theorem retire_slots (v : Lsv) (sc : Option Scope) (cause : RetireCause) (keep : Bool) (l : LeaseNo) :
    (v.retire sc cause keep l).lsv.slots = (v.leaveSlot keep v.leases[l]).slots := by
  rw [retire_frame]
  rfl

theorem retire_freeList (v : Lsv) (sc : Option Scope) (cause : RetireCause) (keep : Bool) (l : LeaseNo) :
    (v.retire sc cause keep l).lsv.freeList = (v.leaveSlot keep v.leases[l]).freeList := by
  rw [retire_frame]
  rfl

theorem retire_quarantine (v : Lsv) (sc : Option Scope) (cause : RetireCause) (keep : Bool) (l : LeaseNo) :
    (v.retire sc cause keep l).lsv.quarantine = (v.leaveSlot keep v.leases[l]).quarantine := by
  rw [retire_frame]
  rfl

theorem retire_tap (v : Lsv) (sc : Option Scope) (cause : RetireCause) (keep : Bool) (l : LeaseNo) :
    (v.retire sc cause keep l).lsv.tap = (v.leaveTap l).tap := by
  rw [retire_frame]

theorem retire_groups (v : Lsv) (sc : Option Scope) (cause : RetireCause) (keep : Bool) (l : LeaseNo) :
    (v.retire sc cause keep l).lsv.groups =
      upd v.groups v.leases[l].group (leftGroup v.groups[v.leases[l].group] v.leases[l].kind l) := by
  rw [retire_frame]
  exact vacated_groups v keep l

theorem retire_group_self (v : Lsv) (sc : Option Scope) (cause : RetireCause) (keep : Bool) (l : LeaseNo) :
    (v.retire sc cause keep l).lsv.groups[v.leases[l].group] =
      leftGroup v.groups[v.leases[l].group] v.leases[l].kind l := by
  rw [retire_groups, upd_get_self]

theorem retire_group_other (v : Lsv) (sc : Option Scope) (cause : RetireCause) (keep : Bool) (l : LeaseNo) {g : GroupNo}
    (h : g ≠ v.leases[l].group) : (v.retire sc cause keep l).lsv.groups[g] = v.groups[g] := by
  rw [retire_groups, upd_get_other _ (Ne.symm h)]

theorem retire_entry (v : Lsv) (sc : Option Scope) (cause : RetireCause) (keep : Bool) (l : LeaseNo) (p : PortNo)
    (c : ChanNo) :
    (v.retire sc cause keep l).lsv.entry p c =
      if p = v.leases[l].port ∧ c = v.leases[l].channel then none else v.entry p c := by
  have hvacated : (vacated v keep l).entry p c =
      if p = v.leases[l].port ∧ c = v.leases[l].channel then none else v.entry p c := by
    unfold vacated
    rw [Lsv.entry_setGroup, Lsv.entry_bind]
    simp only [Lsv.entry, Lsv.leaveSlot_chanMap, eq_comm]
  rw [retire_frame]
  exact hvacated

theorem leavingTap_noticedBy (v : Lsv) (keep : Bool) (l : LeaseNo) (cause : RetireCause) (x : Lease) :
    noticedBy ((departing v keep l).leaveTap l) cause x = noticedBy v cause x := by
  unfold noticedBy
  cases cause.notice with
  | none => rfl
  | some k => exact (noticed_congr (leaveTap_groups _ l) k x).trans (departing_noticed v keep l k x)

/-- The retired record, whatever turn it has had. -/
theorem retire_lease_self' (v : Lsv) (sc : Option Scope) (cause : RetireCause) (keep : Bool) (l : LeaseNo) :
    (v.retire sc cause keep l).lsv.leases[l] = (noticedBy v cause (departing v keep l).leases[l]).ended cause := by
  rw [retire_lsv, endRecord_lease, if_pos rfl, leavingTap_noticedBy, leaveTap_leases]

theorem retire_lease_other' (v : Lsv) (sc : Option Scope) (cause : RetireCause) (keep : Bool) {l j : LeaseNo} (h : j ≠ l) :
    (v.retire sc cause keep l).lsv.leases[j] = (departing v keep l).leases[j] := by
  rw [retire_lsv, endRecord_lease, if_neg h, leaveTap_leases]

/-- The retired record, of a lease that is not its own listener. -/
theorem retire_lease_self (v : Lsv) (sc : Option Scope) (cause : RetireCause) (keep : Bool) {l : LeaseNo}
    (h : v.leases[l].kind = .talk → l ∉ v.groups[v.leases[l].group].listeners) :
    (v.retire sc cause keep l).lsv.leases[l] = (noticedBy v cause v.leases[l]).ended cause := by
  rw [retire_lease_self', departing_lease_untouched]
  exact fun hl => h (mem_departureList.mp hl).1.1 (mem_departureList.mp hl).2

theorem retire_lease_other (v : Lsv) (sc : Option Scope) (cause : RetireCause) (keep : Bool) {l j : LeaseNo}
    (hnodup : (departureList v.groups[v.leases[l].group] keep v.leases[l].kind).Nodup) (h : j ≠ l) :
    (v.retire sc cause keep l).lsv.leases[j] =
      if j ∈ departureList v.groups[v.leases[l].group] keep v.leases[l].kind
      then afterTurn (turned .active .waiting) .talkerChange v v.leases[j] else v.leases[j] := by
  rw [retire_lease_other' v sc cause keep h, departing_lease v keep hnodup]

theorem retire_lease_untouched (v : Lsv) (sc : Option Scope) (cause : RetireCause) (keep : Bool) {l j : LeaseNo}
    (h : j ≠ l) (hj : j ∉ departureList v.groups[v.leases[l].group] keep v.leases[l].kind) :
    (v.retire sc cause keep l).lsv.leases[j] = v.leases[j] := by
  rw [retire_lease_other' v sc cause keep h, departing_lease_untouched v keep hj]

/-- The attention list: the listeners join it before the retired lease (R158). -/
theorem retire_attention (v : Lsv) (sc : Option Scope) (cause : RetireCause) (keep : Bool) {l : LeaseNo}
    (hnodup : (departureList v.groups[v.leases[l].group] keep v.leases[l].kind).Nodup)
    (h : v.leases[l].kind = .talk → l ∉ v.groups[v.leases[l].group].listeners) :
    (v.retire sc cause keep l).lsv.attention =
      v.attention ++ joining v .talkerChange (departureList v.groups[v.leases[l].group] keep v.leases[l].kind) ++
        joiningBy v cause [l] := by
  have hself : (departing v keep l).leases[l] = v.leases[l] :=
    departing_lease_untouched v keep fun hl => h (mem_departureList.mp hl).1.1 (mem_departureList.mp hl).2
  have hby : joiningBy ((departing v keep l).leaveTap l) cause [l] = joiningBy v cause [l] := by
    unfold joiningBy
    cases cause.notice with
    | none => rfl
    | some k =>
      refine List.filter_congr fun j hj => ?_
      rw [List.mem_singleton.mp hj, leaveTap_leases, hself, noticed_congr (leaveTap_groups _ l), departing_noticed]
  rw [retire_lsv, endRecord_attention, hby, leaveTap_attention, departing_attention v keep hnodup]

/-- The STATUS replies of the listeners of a group that a lease leaves (R18). -/
theorem leaveGroup_snd (v : Lsv) (sc : Option Scope) {keep : Bool} {r : Lease} (l : LeaseNo)
    (hnodup : (departureList v.groups[r.group] keep r.kind).Nodup) :
    (v.leaveGroup sc keep r l).2 =
      (told v sc .active (departureList v.groups[r.group] keep r.kind)).map (listenerStatus v .waiting 0) := by
  unfold Lsv.leaveGroup
  unfold departureList at hnodup ⊢
  cases hk : r.kind with
  | duplex | listen => simp [told]
  | talk =>
    cases keep with
    | true => simp [told]
    | false =>
      have hlisteners : ((v.setGroup r.group { v.groups[r.group] with talker := none }).groups[r.group]).listeners =
          v.groups[r.group].listeners := by
        rw [Lsv.setGroup_groups, upd_get_self]
      rw [if_pos ⟨hk, rfl⟩] at hnodup
      rw [if_pos ⟨rfl, rfl⟩]
      refine (moveAll_snd sc .active .waiting 0 (by rw [hlisteners]; exact hnodup) _).trans ?_
      rw [hlisteners]
      exact toldReplies_congr sc .active .waiting 0 fun _ _ => rfl

/-- The replies of a retirement: REVOKED, then the listeners' STATUS (R21). -/
theorem retire_out (v : Lsv) (sc : Option Scope) (cause : RetireCause) (keep : Bool) {l : LeaseNo}
    (hnodup : (departureList v.groups[v.leases[l].group] keep v.leases[l].kind).Nodup) :
    (v.retire sc cause keep l).out =
      v.leases[l].revokedReply cause ++
        (told v sc .active (departureList v.groups[v.leases[l].group] keep v.leases[l].kind)).map
          (listenerStatus v .waiting 0) := by
  have hplaced : ((v.bind v.leases[l].port v.leases[l].channel none).leaveSlot keep v.leases[l]).groups = v.groups := by
    simp
  unfold Lsv.retire
  dsimp only
  rw [leaveGroup_snd _ _ _ (by rw [hplaced]; exact hnodup), hplaced,
    toldReplies_congr (v := v) sc .active .waiting 0 fun j _ => by simp]

theorem retire_tapEnded (v : Lsv) (sc : Option Scope) (cause : RetireCause) (keep : Bool) (l : LeaseNo) :
    (v.retire sc cause keep l).tapEnded = v.feedsTap l := rfl

/-! ### The two statements -/

theorem not_mem_arrivalList {gr : Group} {ns : NewSlot} {k : LeaseKind} {j : LeaseNo}
    (h : k ≠ .talk ∨ j ∉ gr.listeners) : j ∉ arrivalList gr ns k :=
  fun hj => h.elim (· (mem_arrivalList.mp hj).1.1) (· (mem_arrivalList.mp hj).2)

theorem arrivalList_quiet (gr : Group) {ns : NewSlot} {k : LeaseKind} (h : k ≠ .talk ∨ ns = .absent) :
    arrivalList gr ns k = [] :=
  if_neg fun ⟨hk, hns⟩ => h.elim (· hk) hns

theorem arrivalList_talk (gr : Group) {ns : NewSlot} {k : LeaseKind} (hk : k = .talk) (hns : ns ≠ .absent) :
    arrivalList gr ns k = gr.listeners :=
  if_pos ⟨hk, hns⟩

/-- Settles O11, from the creation's fields. -/
theorem creationMakesLease : Obligations.CreationMakesLease := by
  rintro v _ sc fault ns r n hn rfl
  refine ⟨?record, ?entries, ?otherGroups, ?duplex, ?talk, ?listen, ?others, create_tap v sc fault ns r n,
    create_quarantine v sc fault ns r n, ?quiet, ?arrives, ?replaces, ?fromFree, ?fromReserved, ?passed, ?absent⟩
  case record =>
    rw [create_lease_self v sc fault ns r hn]
    cases ns <;> rfl
  case entries => exact create_entry v sc fault ns r n
  case otherGroups => exact fun g hg => create_group_other v sc fault ns r n hg
  case duplex =>
    intro hk
    rw [create_group_self, hk]
    rfl
  case talk =>
    intro hk
    rw [create_group_self, hk]
    rfl
  case listen =>
    intro hk
    rw [create_group_self, hk]
    rfl
  case others => exact fun j hj hl => create_lease_untouched v sc fault ns r (not_mem_arrivalList hl) hj
  case quiet =>
    intro h
    have hlist := arrivalList_quiet v.groups[r.group] h
    refine ⟨?_, create_snd_quiet v sc fault n (h.imp_right fun hns sl hsl => by rw [hns] at hsl; cases hsl)⟩
    rw [create_attention v sc fault ns r (by rw [hlist]; exact List.nodup_nil) hn, hlist]
    exact List.append_nil _
  case arrives =>
    rintro sl _ hk rfl rfl hnodup
    have hlist := arrivalList_talk v.groups[r.group] (ns := .taken sl) hk nofun
    refine ⟨fun j hj => ?_, ?_, create_snd_taken v sc fault sl hk hnodup hn⟩
    · rw [create_lease_other v sc fault _ r (arrivalList_nodup hnodup _ _) hj, hlist]
      simp only [arrivalTurn, afterTurn_turned, arrived]
    · rw [create_attention v sc fault _ r (arrivalList_nodup hnodup _ _) hn, hlist, talkerJoined_eq]
  case replaces =>
    rintro sl _ hk rfl rfl hnodup
    have hlist := arrivalList_talk v.groups[r.group] (ns := .passed sl) hk nofun
    refine ⟨fun j hj => ?_, ?_, create_snd_quiet v sc fault n (.inr nofun)⟩
    · rw [create_lease_other v sc fault _ r (arrivalList_nodup hnodup _ _) hj, hlist]
      rfl
    · rw [create_attention v sc fault _ r (arrivalList_nodup hnodup _ _) hn, hlist, talkerJoined_eq]
  case fromFree =>
    rintro sl rfl hfree
    rw [create_slots, create_freeList]
    exact takeSlot_free hfree n
  case fromReserved =>
    rintro sl rfl hreserved
    rw [create_slots, create_freeList]
    exact takeSlot_reserved hreserved n
  case passed =>
    rintro sl rfl
    rw [create_slots, create_freeList]
    exact ⟨rfl, rfl⟩
  case absent =>
    rintro rfl
    rw [create_slots, create_freeList]
    exact ⟨rfl, rfl⟩

/-- The REVOKED of the model is that of the statements (R21). -/
theorem revokedReply_eq (r : Lease) (cause : RetireCause) : r.revokedReply cause = revoked r cause := by
  unfold Lease.revokedReply revoked
  cases r.origin with
  | host => rfl
  | signaled =>
    cases cause <;> rfl

/-- The record of a retirement: FREE with no notices, otherwise RETIRED with the notices and the cause (R22). -/
theorem ended_noticedBy (v : Lsv) (cause : RetireCause) (r : Lease) :
    (noticedBy v cause r).ended cause =
      if (noticedBy v cause r).notices = 0 then Lease.cleared
      else { r with
        state := .retired, slot := none, notices := (noticedBy v cause r).notices, cause := some cause } := by
  have hkeeps : noticedBy v cause r = { r with notices := (noticedBy v cause r).notices } := by
    unfold noticedBy
    cases cause.notice with
    | none => rfl
    | some k => exact noticed_keeps v k r
  unfold Lease.ended
  split
  · rfl
  · rw [hkeeps]

/-- The retired lease joins the attention list when its notice set goes from empty to non-empty (R158). -/
theorem joiningBy_single (v : Lsv) (cause : RetireCause) (l : LeaseNo) :
    joiningBy v cause [l] =
      if v.leases[l].notices = 0 ∧ (noticedBy v cause v.leases[l]).notices ≠ 0 then [l] else [] := by
  unfold joiningBy noticedBy
  cases cause.notice with
  | none => exact (if_neg fun ⟨h, hne⟩ => hne h).symm
  | some k =>
    dsimp only
    have hne := noticed_notices_ne_zero v k v.leases[l]
    rw [joining_cons]
    by_cases hn : v.leases[l].notices = 0
    · by_cases hc : v.collects v.leases[l] k = true
      · rw [if_pos ⟨hc, hn⟩, if_pos ⟨hn, hne.mpr (.inr hc)⟩]
        rfl
      · rw [if_neg fun h => hc h.1, if_neg fun h => (hne.mp h.2).elim (· hn) hc]
        rfl
    · rw [if_neg fun h => hn h.2, if_neg fun h => hn h.1]
      rfl

theorem departureList_quiet (gr : Group) {keep : Bool} {k : LeaseKind} (h : k ≠ .talk ∨ keep = true) :
    departureList gr keep k = [] :=
  if_neg fun ⟨hk, hkeep⟩ => h.elim (· hk) fun ht => by rw [ht] at hkeep; cases hkeep

theorem departureList_talk (gr : Group) {k : LeaseKind} (hk : k = .talk) : departureList gr false k = gr.listeners :=
  if_pos ⟨hk, rfl⟩

/-- A slot with home RESERVED is reserved again (R31). -/
theorem leaveSlot_reserved {v : Lsv} {r : Lease} {sl : SlotNo} (hs : r.slot = some sl)
    (h : v.slots[sl].home = some .reserved) : v.leaveSlot false r = v.setSlot sl SlotRec.reserved := by
  unfold Lsv.leaveSlot
  rw [hs]
  exact giveUp_reserved h

/-- A slot with home POOL joins the pool (R33). -/
theorem leaveSlot_pool {v : Lsv} {r : Lease} {sl : SlotNo} (hs : r.slot = some sl)
    (h : v.slots[sl].home = some .pool) : v.leaveSlot false r = v.toPool sl := by
  unfold Lsv.leaveSlot
  rw [hs]
  exact giveUp_pool (by rw [h]; exact nofun)

/-- No slot, or one that passes to another lease, is given up. -/
theorem leaveSlot_stays {v : Lsv} {r : Lease} {keep : Bool} (h : r.slot = none ∨ keep = true) :
    v.leaveSlot keep r = v := by
  unfold Lsv.leaveSlot
  split
  · next sl hs => rw [hs] at h; rw [if_pos (h.resolve_left nofun)]
  · rfl

/-- Settles O12, from the retirement's fields. -/
theorem retirementEndsLease : Obligations.RetirementEndsLease := by
  rintro v _ sc cause keep l _ rfl hself rfl
  have hout := revokedReply_eq v.leases[l] cause
  refine ⟨fun ns hns => ?record, retire_entry v sc cause keep l, fun g hg => retire_group_other v sc cause keep l hg,
    ?duplex, ?talk, ?listen, ?others, ?ends, ?stays, feedsTap_iff v l, ?noSlot, fun sl hs hkeep => ?slot⟩
  case record =>
    have hby : ns = (noticedBy v cause v.leases[l]).notices := by
      rw [hns]
      unfold noticedBy
      cases cause.notice with
      | none => rfl
      | some k =>
        simp only [noticed]
        split <;> rfl
    rw [hby]
    refine ⟨?_, fun last hlast => ⟨fun hquiet => ?_, ?_⟩⟩
    · rw [retire_lease_self v sc cause keep hself, ended_noticedBy]
    · have hlist := departureList_quiet v.groups[v.leases[l].group] hquiet
      have hnodup : (departureList v.groups[v.leases[l].group] keep v.leases[l].kind).Nodup := by
        rw [hlist]; exact List.nodup_nil
      rw [retire_attention v sc cause keep hnodup hself, retire_out v sc cause keep hnodup, hlist, hout, hlast,
        joiningBy_single]
      simp [joining, told]
    · rintro _ hk rfl rfl hnodup
      have hlist := departureList_talk v.groups[v.leases[l].group] hk
      have hnodup' : (departureList v.groups[v.leases[l].group] false v.leases[l].kind).Nodup := by
        rw [hlist]; exact hnodup
      refine ⟨fun j hj => ?_, ?_, ?_⟩
      · rw [retire_lease_other v sc cause false hnodup' hj, hlist, afterTurn_turned, departed]
      · rw [retire_attention v sc cause false hnodup' hself, hlist, hlast, joiningBy_single, talkerJoined_eq]
      · rw [retire_out v sc cause false hnodup', hlist, hout]
  case duplex =>
    intro hk
    rw [retire_group_self, hk]
    rfl
  case talk =>
    intro hk
    rw [retire_group_self, hk]
    rfl
  case listen =>
    intro hk
    rw [retire_group_self, hk]
    rfl
  case others =>
    refine fun j hj h => retire_lease_untouched v sc cause keep hj fun hd => ?_
    obtain ⟨⟨hk, hkeep⟩, hmem⟩ := mem_departureList.mp hd
    rcases h with h | h | h
    · exact h hk
    · rw [h] at hkeep; cases hkeep
    · exact h hmem
  case ends =>
    intro h
    rw [retire_tap, Lsv.leaveTap, if_pos ((feedsTap_iff v l).mpr h)]
  case stays =>
    intro h
    rw [retire_tap, Lsv.leaveTap, if_neg (mt (feedsTap_iff v l).mp h)]
  case noSlot =>
    intro h
    rw [retire_slots, retire_freeList, retire_quarantine, leaveSlot_stays h]
    exact ⟨rfl, rfl, rfl⟩
  case slot =>
    subst hkeep
    rw [retire_slots, retire_freeList, retire_quarantine]
    refine ⟨fun hhome => ?_, fun hhome hguard => ?_, fun hhome hguard => ?_⟩
    · rw [leaveSlot_reserved hs hhome]
      exact ⟨rfl, rfl, rfl⟩
    · rw [leaveSlot_pool hs hhome, Lsv.toPool_guarded hguard]
      exact ⟨rfl, rfl, rfl⟩
    · rw [leaveSlot_pool hs hhome, Lsv.toPool_unguarded hguard]
      exact ⟨rfl, rfl, rfl⟩

end Sys2Proof.Spec
end

section
/-! PROOF. What a step can do to the tables and to the line ports, said once: each change of the tables with the guards under which
the model makes it, and the one change that each row makes. The invariants of the tables follow from it change by change. -/

namespace Sys2Proof.Spec

open Sys2Proof.Machine

/-! ### The changes of the tables -/

/-- Record `r'` is the same lease as `r`: of the fields that place a lease only the state can differ, and not whether it is live. -/
structure Alike (r r' : Lease) : Prop where
  live : r'.live = r.live
  kind : r'.kind = r.kind
  port : r'.port = r.port
  channel : r'.channel = r.channel
  group : r'.group = r.group
  slot : r'.slot = r.slot

/-- The record is live, or the channel map names it. -/
def Bound (v : Lsv) (l : LeaseNo) : Prop := v.leases[l].live = true ∨ ∃ (p : PortNo) (c : ChanNo), v.entry p c = some l

/-- Slot `sl` can be taken: it stands in the free list, is FREE, or is RESERVED and not the target of the tap (R24, R36, R41). -/
def Takeable (v : Lsv) (sl : SlotNo) : Prop :=
  sl ∈ v.freeList ∨ v.slots[sl].state = .free ∨ (v.slots[sl].state = .reserved ∧ ¬ TapTarget v sl)

/-- What holds of the port and the channel of every creation (R24, R98): the channel is a bearer channel of the port, its entry
is empty, the record is FREE, and the port is not CLOSED, or it is served a message. -/
structure Opens (ports : Vector Port 4) (v : Lsv) (r : Lease) (n : LeaseNo) : Prop where
  free : v.leases[n].state = .free
  empty : v.entry r.port r.channel = none
  bearer : ports[r.port].lpi.format.bearer r.channel = true
  served : ports[r.port].lpi.admin = .closed → ports[r.port].cch.bufA.isSome = true
  quiet : r.notices = 0

/-- What holds of the slot and the group of a creation that preempts no lease (R24, R101 to R103). -/
structure Admits (v : Lsv) (ns : NewSlot) (r : Lease) : Prop where
  absent : r.kind = .listen → ns = .absent
  taken : r.kind ≠ .listen → ∃ sl, ns = .taken sl ∧ Takeable v sl
  talker : r.kind = .talk → v.groups[r.group].talker = none
  room : r.kind = .listen → v.groups[r.group].listeners.length < v.groups[r.group].listenerCap

/-- The changes of the tables that leave the line ports alone. -/
inductive TableChange (ports : Vector Port 4) : Lsv → Lsv → Prop where
  | same (v : Lsv) : TableChange ports v v
  | trans {u v w : Lsv} : TableChange ports u v → TableChange ports v w → TableChange ports u w
  | record {v : Lsv} {l : LeaseNo} {r : Lease} (bound : Bound v l) (alike : Alike v.leases[l] r)
      (state : r.state = v.leases[l].state) (notices : r.notices = v.leases[l].notices) : TableChange ports v (v.setLease l r)
  | retired {v : Lsv} (sc : Option Scope) (cause : RetireCause) {l : LeaseNo} (bound : Bound v l) :
      TableChange ports v (v.retire sc cause false l).lsv
  | purged {v : Lsv} {l : LeaseNo} (dead : v.leases[l].live = false) : TableChange ports v (v.purge l)
  | served {v : Lsv} {l : LeaseNo} {rest : List LeaseNo} (head : v.attention = l :: rest) :
      TableChange ports v { v.setLease l v.leases[l].noticesTaken with attention := rest }
  | created {v : Lsv} (sc : Option Scope) {ns : NewSlot} {r : Lease} {n : LeaseNo} (opens : Opens ports v r n)
      (admits : Admits v ns r) : TableChange ports v (v.create sc ports[r.port].lpi.faulty ns r n).1
  | preempted {v : Lsv} (sc : Option Scope) {r : Lease} {n t : LeaseNo} {sl : SlotNo} (opens : Opens ports v r n)
      (talk : r.kind = .talk) (talker : v.groups[r.group].talker = some t) (slot : v.leases[t].slot = some sl) :
      TableChange ports v
        ((v.retire sc .preempted true t).lsv.create sc ports[r.port].lpi.faulty (.passed sl) r n).1
  | displaced {v : Lsv} (sc : Option Scope) {r : Lease} {n b : LeaseNo} (opens : Opens ports v r n)
      (listen : r.kind = .listen) (victim : b ∈ v.groups[r.group].listeners) : TableChange ports v
        ((v.retire sc .preempted false b).lsv.create sc ports[r.port].lpi.faulty .absent r n).1
  | moved {v : Lsv} {l : LeaseNo} {sl : SlotNo} (live : v.leases[l].live = true) (kind : v.leases[l].kind ≠ .listen)
      (takeable : Takeable v sl) : TableChange ports v (v.moveLease l sl)
  | settings {v : Lsv} {g : Nat} (floors : Vector Nat 4) (small : g ≤ 15) :
      TableChange ports v { v with guardSetting := g, floors := floors }
  | tap {v : Lsv} {t : Tap} (target : t.state = .on → ∃ sl, t.target = some sl ∧ v.slots[sl].state = .reserved)
      (source : t.state = .on → ∃ l, t.source = some l ∧ v.leases[l].live = true) : TableChange ports v { v with tap := t }
  | group {v : Lsv} {g : GroupNo} {x : Group} (talker : x.talker = v.groups[g].talker)
      (listeners : x.listeners = v.groups[g].listeners) (cap : x.listenerCap ≤ 16) : TableChange ports v (v.setGroup g x)
  | reserved {v : Lsv} (sl : SlotNo) : TableChange ports v (v.reserveSlot sl)
  | released {v : Lsv} {sl : SlotNo} (free : v.slots[sl].state = .reserved → ¬ TapTarget v sl) :
      TableChange ports v (v.releaseSlot sl)
  | phase {v : Lsv} : TableChange ports v v.quarantinePhase

/-! ### The changes of a line port -/

/-- The line port stays what it is for its leases: its admin state, its format, and whether they are CONDITIONED (R117). -/
structure SameLine (l l' : Lpi) : Prop where
  admin : l'.admin = l.admin
  format : l'.format = l.format
  faulty : l'.faulty = l.faulty

theorem SameLine.refl (l : Lpi) : SameLine l l := ⟨rfl, rfl, rfl⟩

theorem SameLine.trans {l m n : Lpi} (h : SameLine l m) (h' : SameLine m n) : SameLine l n :=
  ⟨h'.admin.trans h.admin, h'.format.trans h.format, h'.faulty.trans h.faulty⟩

/-- All line ports stay what they are. -/
def SameLines (ports ports' : Vector Port 4) : Prop := ∀ p : PortNo, SameLine ports[p].lpi ports'[p].lpi

theorem SameLines.refl (ports : Vector Port 4) : SameLines ports ports := fun p => SameLine.refl ports[p].lpi

theorem SameLines.trans {a b c : Vector Port 4} (h : SameLines a b) (h' : SameLines b c) : SameLines a c :=
  fun p => (h p).trans (h' p)

/-- Replacing port `p` by one with the same line port. -/
theorem SameLines.upd {ports : Vector Port 4} {p : PortNo} {x : Port} (h : SameLine ports[p].lpi x.lpi) :
    SameLines ports (upd ports p x) := by
  intro q
  rw [upd_get]
  split
  · next hq => subst hq; exact h
  · exact SameLine.refl _

theorem SameLines.tab {ports : Vector Port 4} {f : PortNo → Port} (h : ∀ p, SameLine ports[p].lpi (f p).lpi) :
    SameLines ports (tab 4 f) := by
  intro q
  rw [tab_get]
  exact h q

theorem SameLines.placeAll (serving : Option PortNo) (ports : Vector Port 4) (us : List Unsolicited) :
    SameLines ports (placeAll serving ports us) := by
  intro p
  obtain ⟨queue, counters, h⟩ := placeAll_frame serving ports us p
  rw [h]
  exact SameLine.refl _

/-- No live lease is bound to port `p`. -/
def Vacant (v : Lsv) (p : PortNo) : Prop := ∀ l : LeaseNo, v.leases[l].live = true → v.leases[l].port ≠ p

/-- What PORT_SET can do to a line port (R113, R114, R126): the format changes only while the port is CLOSED, and the port closes
only with no live lease. -/
structure Configures (v : Lsv) (p : PortNo) (l l' : Lpi) : Prop where
  format : l.admin ≠ .closed → l'.format = l.format
  admin : l.admin ≠ .closed → l'.admin = .closed → Vacant v p
  faulty : l'.faulty = l.faulty ∨ Vacant v p

/-- The change that a step makes to the tables and the line ports. -/
inductive PartChange (v : Lsv) (ports : Vector Port 4) : Lsv → Vector Port 4 → Prop where
  | tables {w : Lsv} {ports' : Vector Port 4} (change : TableChange ports v w) (lines : SameLines ports ports') :
      PartChange v ports w ports'
  | conditioned {p : PortNo} {ports' : Vector Port 4} (others : ∀ q, q ≠ p → SameLine ports[q].lpi ports'[q].lpi)
      (admin : ports'[p].lpi.admin = ports[p].lpi.admin) (format : ports'[p].lpi.format = ports[p].lpi.format)
      (faulty : ports'[p].lpi.faulty = true) : PartChange v ports (v.conditionPort p) ports'
  | restored {p : PortNo} {ports' : Vector Port 4} (others : ∀ q, q ≠ p → SameLine ports[q].lpi ports'[q].lpi)
      (admin : ports'[p].lpi.admin = ports[p].lpi.admin) (format : ports'[p].lpi.format = ports[p].lpi.format)
      (faulty : ports'[p].lpi.faulty = false) : PartChange v ports (v.restorePort p) ports'
  | configured {p : PortNo} {ports' : Vector Port 4} (others : ∀ q, q ≠ p → SameLine ports[q].lpi ports'[q].lpi)
      (configures : Configures v p ports[p].lpi ports'[p].lpi) : PartChange v ports v ports'
  | initial (ports' : Vector Port 4) : PartChange v ports Lsv.initial ports'

/-- The change from a state to another. -/
abbrev Changes (s t : State) : Prop := PartChange s.lsv s.ports t.lsv t.ports

/-- A row that leaves the tables and the line ports. -/
theorem Changes.kept {s t : State} (hv : t.lsv = s.lsv) (hp : SameLines s.ports t.ports) : Changes s t := by
  rw [Changes, hv]
  exact .tables (.same _) hp

theorem Changes.stay {s t : State} (hv : t.lsv = s.lsv) (hp : t.ports = s.ports) : Changes s t :=
  Changes.kept hv (by rw [hp]; exact SameLines.refl _)

end Sys2Proof.Spec

namespace Sys2Proof.Machine

/-- What holds of every outcome of a command's forms: of the state itself, of a collision, of the taking, and of the operation in
either form, holds after the command (R169 to R171). -/
theorem hostCommand_forms {P : State → Prop} {s : State} (c : HostCmd) (ph : Phase) {run : State → State} (stay : P s)
    (collided : P s.collided) (taken : P (s.taken c)) (runs : P (run s)) (runsTaken : P (run (s.taken c))) :
    P (hostCommand c ph run s) := by
  unfold hostCommand
  split
  · exact stay
  · cases ph with
    | whole =>
      dsimp only
      split
      · exact collided
      · exact runsTaken
    | write =>
      dsimp only
      split
      · exact collided
      · exact taken
    | take =>
      dsimp only
      split
      · exact runs
      · exact stay

end Sys2Proof.Machine

namespace Sys2Proof.Spec

open Sys2Proof.Machine

/-! ### Rows that leave the tables -/

/-- A host command changes what its operation does. -/
theorem hostCommand_changes (c : HostCmd) (ph : Phase) {run : State → State} (h : ∀ s, Changes s (run s)) (s : State) :
    Changes s (hostCommand c ph run s) :=
  hostCommand_forms (P := Changes s) c ph (.stay rfl rfl) (.stay rfl rfl) (.stay rfl rfl) (h s) (h (s.taken c))

theorem runLeaseRead_changes (s : State) : Changes s (runLeaseRead s) := by
  unfold runLeaseRead
  split <;> exact .stay rfl rfl

theorem runLeaseFind_changes (s : State) : Changes s (runLeaseFind s) := by
  unfold runLeaseFind
  split
  · split <;> exact .stay rfl rfl
  · exact .stay rfl rfl

theorem runSlotRead_changes (s : State) : Changes s (runSlotRead s) := by
  unfold runSlotRead
  split <;> exact .stay rfl rfl

theorem poolFreeEntry_changes (s : State) (i : Nat) : Changes s (s.poolFreeEntry i) := by
  unfold State.poolFreeEntry
  split <;> exact .stay rfl rfl

theorem poolQuarantineEntry_changes (s : State) (i : Nat) : Changes s (s.poolQuarantineEntry i) := by
  unfold State.poolQuarantineEntry
  split <;> exact .stay rfl rfl

theorem runPoolRead_changes (s : State) : Changes s (runPoolRead s) := by
  unfold runPoolRead
  dsimp only
  split
  · exact .stay rfl rfl
  · exact .stay rfl rfl
  · split
    · exact poolFreeEntry_changes s _
    · exact .stay rfl rfl
  · split
    · exact poolQuarantineEntry_changes s _
    · exact .stay rfl rfl
  · exact .stay rfl rfl

theorem runGroupRead_changes (s : State) : Changes s (runGroupRead s) := by
  unfold runGroupRead
  split <;> exact .stay rfl rfl

theorem runListenerRead_changes (s : State) : Changes s (runListenerRead s) := by
  unfold runListenerRead
  split
  · split <;> exact .stay rfl rfl
  · exact .stay rfl rfl

theorem runPortRead_changes (s : State) : Changes s (runPortRead s) := by
  unfold runPortRead
  split <;> exact .stay rfl rfl

theorem runMeterRead_changes (s : State) : Changes s (runMeterRead s) := by
  unfold runMeterRead
  split
  · dsimp only
    split <;> exact .stay rfl rfl
  · exact .stay rfl rfl

theorem runMeterSet_changes (s : State) : Changes s (runMeterSet s) := by
  unfold runMeterSet
  dsimp only
  split
  · exact .stay rfl rfl
  · split
    · exact .stay rfl rfl
    · exact .kept rfl (.upd (.refl _))

theorem runCountersRead_changes (s : State) : Changes s (runCountersRead s) := by
  unfold runCountersRead
  split
  · dsimp only
    split <;> exact .kept rfl (.upd (.refl _))
  · exact .stay rfl rfl

theorem runHighwayRead_changes (s : State) : Changes s (runHighwayRead s) := .stay rfl rfl

theorem runHighwaySet_changes (s : State) : Changes s (runHighwaySet s) := by
  unfold runHighwaySet
  split
  · exact .stay rfl rfl
  · split <;> exact .stay rfl rfl

theorem runSweepRead_changes (s : State) : Changes s (runSweepRead s) := by
  unfold runSweepRead
  dsimp only
  split <;> exact .stay rfl rfl

theorem runSweepSet_changes (s : State) : Changes s (runSweepSet s) := by
  unfold runSweepSet
  dsimp only
  split <;> exact .stay rfl rfl

theorem runRefusalRead_changes (s : State) : Changes s (runRefusalRead s) := .stay rfl rfl

theorem completeAborted_changes (s : State) (count position : Nat) : Changes s (s.completeAborted count position) := by
  unfold State.completeAborted
  dsimp only
  split <;> exact .stay rfl rfl

theorem walkStart_changes (s : State) : Changes s (walkStart s) := by
  unfold walkStart
  dsimp only
  split
  · exact completeAborted_changes s 0 0
  · split <;> exact .stay rfl rfl

theorem retireScopeStep_changes (ph : Phase) (s : State) : Changes s (retireScopeStep ph s) := by
  unfold retireScopeStep
  split
  · exact .stay rfl rfl
  · cases ph with
    | whole =>
      dsimp only
      split
      · exact .stay rfl rfl
      · exact walkStart_changes s.takenWalk
    | write =>
      dsimp only
      split <;> exact .stay rfl rfl
    | take =>
      dsimp only
      split
      · exact walkStart_changes s
      · exact .stay rfl rfl

theorem writeAbort_changes (s : State) : Changes s s.writeAbort := by
  unfold State.writeAbort
  split
  · rw [State.abortBusy_frame]
    exact .stay rfl rfl
  · exact .stay rfl rfl

theorem takeAbort_stay (s : State) : s.takeAbort.lsv = s.lsv ∧ s.takeAbort.ports = s.ports := by
  unfold State.takeAbort
  split <;> exact ⟨rfl, rfl⟩

end Sys2Proof.Spec
end

section
/-! PROOF. The change that each row makes, row by row: the rows that leave the tables, the rows of the line ports, and the rows of
the tables with the checks under which they act. -/

namespace Sys2Proof.Spec

open Sys2Proof.Machine

/-! ### Rows of the command port and of the register window -/

theorem Changes.trans_stay {s t u : State} (h : Changes s t) (hv : u.lsv = t.lsv) (hp : u.ports = t.ports) : Changes s u := by
  rw [Changes, hv, hp]
  exact h

theorem abortStep_changes (s : State) : Changes s (abortStep s) := by
  unfold abortStep
  split
  · exact .stay rfl rfl
  · split
    · exact .stay (takeAbort_stay s).1 (takeAbort_stay s).2
    · exact (writeAbort_changes s).trans_stay (takeAbort_stay _).1 (takeAbort_stay _).2

theorem walkEndingStep_changes (s : State) : Changes s (walkEndingStep s) := by
  unfold walkEndingStep
  dsimp only
  split
  · exact .stay rfl rfl
  · split
    · exact completeAborted_changes s _ _
    · exact .stay rfl rfl

theorem writeReset_stay (s : State) : s.writeReset.lsv = s.lsv ∧ s.writeReset.ports = s.ports := by
  rw [State.writeReset_frame]
  exact ⟨rfl, rfl⟩

/-- SOFT_RESET CLEAR gives the tables their initial values; KEEP leaves them and the line ports (R128, R181). -/
theorem runSoftReset_changes (s : State) : Changes s s.runSoftReset := by
  unfold State.runSoftReset
  cases resetMode (s.arg 0) with
  | none => exact .stay rfl rfl
  | some m =>
    cases m with
    | clear => exact .initial _
    | keep => exact .kept rfl (.tab fun _ => .refl _)

theorem takeReset_changes (s : State) : Changes s s.takeReset := by
  unfold State.takeReset
  split
  · exact runSoftReset_changes s
  · exact .stay rfl rfl

theorem softResetStep_changes (s : State) : Changes s (softResetStep s) := by
  unfold softResetStep
  split
  · exact .stay rfl rfl
  · split
    · exact takeReset_changes s
    · have h := takeReset_changes s.writeReset
      rwa [Changes, (writeReset_stay s).1, (writeReset_stay s).2] at h

theorem unknownCommandStep_changes (w : Word) (s : State) : Changes s (unknownCommandStep w s) := by
  unfold unknownCommandStep
  split
  · exact .stay rfl rfl
  · split <;> exact .stay rfl rfl

theorem collisionStep_changes (w : Word) (s : State) : Changes s (collisionStep w s) := by
  unfold collisionStep
  split
  · exact .stay rfl rfl
  · split <;> exact .stay rfl rfl

theorem istatWriteStep_changes (w : Word) (s : State) : Changes s (istatWriteStep w s) := by
  unfold istatWriteStep
  split <;> exact .stay rfl rfl

theorem ienWriteStep_changes (w : Word) (s : State) : Changes s (ienWriteStep w s) := by
  unfold ienWriteStep
  split <;> exact .stay rfl rfl

theorem commandWriteStep_changes (w : Word) (s : State) : Changes s (commandWriteStep w s) := by
  unfold commandWriteStep
  split
  case h_1 => exact unknownCommandStep_changes w s
  case h_2 =>
    split
    · exact .stay rfl rfl
    · exact writeAbort_changes s
  case h_3 =>
    split
    · exact .stay rfl rfl
    · exact .stay (writeReset_stay s).1 (writeReset_stay s).2
  case h_4 => exact retireScopeStep_changes .write s
  case h_5 => exact hostCommand_changes _ .write (fun t => .stay rfl rfl) s

theorem argumentWriteStep_changes (n : Fin 16) (w : Word) (s : State) : Changes s (argumentWriteStep n w s) := by
  unfold argumentWriteStep
  split
  · exact .stay rfl rfl
  · split <;> exact .stay rfl rfl

theorem registerWriteStep_changes (n : Fin 16) (w : Word) (s : State) : Changes s (registerWriteStep n w s) := by
  unfold registerWriteStep
  split
  · exact commandWriteStep_changes w s
  · exact istatWriteStep_changes w s
  · exact ienWriteStep_changes w s
  · exact argumentWriteStep_changes n w s

/-! ### Rows of the Claim Channel, of the frames and of the pins that leave the tables -/

theorem Changes.setCch (s : State) (p : PortNo) (c : Cch) : Changes s (s.setCch p c) := .kept rfl (.upd (.refl _))

theorem receiveByte_changes (s : State) (p : PortNo) (b : Byte) : Changes s (s.receiveByte p b) := by
  unfold State.receiveByte
  split
  · exact .setCch s p _
  · exact .stay rfl rfl

theorem headerInHuntStep_changes (p : PortNo) (b : Byte) (s : State) : Changes s (headerInHuntStep p b s) := by
  unfold headerInHuntStep
  split
  · exact receiveByte_changes s p b
  · exact .stay rfl rfl

theorem headerInGatherStep_changes (p : PortNo) (b : Byte) (s : State) : Changes s (headerInGatherStep p b s) := by
  unfold headerInGatherStep
  split
  · exact receiveByte_changes s p b
  · exact .stay rfl rfl

theorem continuationInGatherStep_changes (p : PortNo) (b : Byte) (s : State) :
    Changes s (continuationInGatherStep p b s) := by
  unfold continuationInGatherStep
  dsimp only
  split
  · exact receiveByte_changes s p b
  · exact .stay rfl rfl

theorem messageCompleteStep_changes (p : PortNo) (b : Byte) (s : State) : Changes s (messageCompleteStep p b s) := by
  unfold messageCompleteStep
  split
  · exact (receiveByte_changes s p b).trans_stay (State.pollServing_lsv _) (State.pollServing_ports _)
  · exact .stay rfl rfl

theorem transmitted_changes (s : State) (p : PortNo) : Changes s (s.transmitted p) := by
  obtain ⟨c, hc⟩ := State.transmitted_frame s p
  rw [hc]
  exact .setCch s p c

theorem replySentStep_changes (p : PortNo) (s : State) : Changes s (replySentStep p s) := by
  unfold replySentStep
  split
  · exact (transmitted_changes s p).trans_stay (State.pollServing_lsv _) (State.pollServing_ports _)
  · exact .stay rfl rfl

theorem SameLine.countFrame (l : Lpi) : SameLine l l.countFrame := by
  unfold Lpi.countFrame
  split <;> exact ⟨rfl, rfl, rfl⟩

theorem SameLine.tick (l : Lpi) : SameLine l l.tick := by
  unfold Lpi.tick
  split
  · exact ⟨rfl, rfl, rfl⟩
  · exact .refl l

theorem frameStartStep_changes (s : State) : Changes s (frameStartStep s) := by
  unfold frameStartStep
  dsimp only
  split
  · exact .stay rfl rfl
  · exact .kept rfl (.tab fun p => .countFrame s.ports[p].lpi)

theorem refillStep_changes (refill : Cmt → Cmt) (p : PortNo) (s : State) : Changes s (refillStep refill p s) := by
  unfold refillStep
  split
  · exact .stay rfl rfl
  · exact .kept rfl (.upd (.refl _))

theorem tick_changes (s : State) : Changes s s.tick :=
  .kept (State.raiseIf_lsv _ _ _) (by
    rw [State.tick, State.raiseIf_ports]
    exact .tab fun p => .tick s.ports[p].lpi)

theorem sweepTickStep_changes (s : State) : Changes s (sweepTickStep s) := by
  unfold sweepTickStep
  split
  · exact tick_changes s
  · exact .stay rfl rfl

theorem lostStep_changes (p : PortNo) (s : State) : Changes s (lostStep p s) := by
  unfold lostStep
  split
  · exact tick_changes s
  · exact .stay rfl rfl

theorem highwayEvent_changes (s : State) (h : Hwi) (start : BitTime) (hwIn : Vector Byte 256) :
    Changes s (s.highwayEvent h start hwIn) := by
  rw [State.highwayEvent_frame]
  exact .stay rfl rfl

theorem highwayPulseStep_changes (t : BitTime) (hwIn : Vector Byte 256) (s : State) :
    Changes s (highwayPulseStep t hwIn s) := by
  unfold highwayPulseStep
  split
  · exact .stay rfl rfl
  · exact highwayEvent_changes ..

theorem pulseMissingStep_changes (hwIn : Vector Byte 256) (s : State) : Changes s (pulseMissingStep hwIn s) := by
  unfold pulseMissingStep
  split
  · exact .stay rfl rfl
  · exact highwayEvent_changes ..

/-! ### The condition of a line port (R115 to R120) -/

theorem SameLine.faultEvent (l : Lpi) : SameLine l l.faultEvent := by
  unfold Lpi.faultEvent
  split
  case h_1 h => exact ⟨rfl, rfl, by simp only [Lpi.faulty, h]; decide⟩
  case h_2 h => exact ⟨rfl, rfl, by simp only [Lpi.faulty, h]; decide⟩
  case h_3 => exact .refl l
  case h_4 => exact .refl l

/-- What the replacement of port `p` leaves of the others. -/
theorem upd_others (ports : Vector Port 4) {p : PortNo} (x : Port) (q : PortNo) (h : q ≠ p) :
    SameLine ports[q].lpi (upd ports p x)[q].lpi := by
  rw [upd_get_other _ (Ne.symm h)]
  exact .refl _

/-- The change from the tables of `s` and the line ports `ports`, which `s` may have touched already. -/
abbrev ChangesFrom (ports : Vector Port 4) (s t : State) : Prop := PartChange s.lsv ports t.lsv t.ports

theorem ChangesFrom.stay {ports : Vector Port 4} {s t : State} (h : SameLines ports s.ports) (hv : t.lsv = s.lsv)
    (hp : SameLines s.ports t.ports) : ChangesFrom ports s t := by
  rw [ChangesFrom, hv]
  exact .tables (.same _) (h.trans hp)

/-- The recovery of a port (R120). -/
theorem recover_changes {ports : Vector Port 4} {s : State} (h : SameLines ports s.ports) (p : PortNo) :
    ChangesFrom ports s (s.recover p) := by
  have hself : (s.recover p).ports[p].lpi =
      { s.ports[p].lpi with condition := .normal, recoveryTimer := none, countdown := 0, lost := false } := by
    simp only [State.recover, State.raise_ports, upd_get_self]
  refine .restored (p := p) (fun q hq => (h q).trans (upd_others _ _ q hq)) ?_ ?_ ?_
  · rw [hself]
    exact (h p).admin
  · rw [hself]
    exact (h p).format
  · rw [hself]
    rfl

/-- The entry to FAULTED (R117). -/
theorem enterFaulted_changes (s : State) (p : PortNo) : Changes s (s.enterFaulted p) := by
  have hself : (s.enterFaulted p).ports[p].lpi =
      { s.ports[p].lpi with condition := .faulted, holdTimer := none, countdown := s.ports[p].lpi.releaseTimeout } := by
    simp only [State.enterFaulted, State.raise_ports, upd_get_self]
  refine .conditioned (p := p) (upd_others _ _) ?_ ?_ ?_
  · rw [hself]
  · rw [hself]
  · rw [hself]
    rfl

/-- A fault cleared event leaves the line port's side of its leases, or recovers the port (R116, R118, R120). -/
theorem clearEvent_changes {ports : Vector Port 4} {s : State} (h : SameLines ports s.ports) (p : PortNo) :
    ChangesFrom ports s (s.clearEvent p) := by
  unfold State.clearEvent
  dsimp only
  split
  case h_1 hc => exact .stay h rfl (.upd ⟨rfl, rfl, by simp only [Lpi.faulty, hc]; decide⟩)
  case h_2 hc =>
    split
    · exact recover_changes h p
    · exact .stay h rfl (.upd ⟨rfl, rfl, by simp only [Lpi.faulty, hc]; decide⟩)
  case h_3 => exact .stay h rfl (.refl _)
  case h_4 => exact .stay h rfl (.refl _)

/-- A level of the fault input (R115). -/
theorem faultInput_changes {ports : Vector Port 4} {s : State} (h : SameLines ports s.ports) (p : PortNo) (level : Bool) :
    ChangesFrom ports s (s.faultInput p level) := by
  have hlevel : SameLines s.ports (s.setLpi p { s.ports[p].lpi with faultIn := level }).ports := .upd ⟨rfl, rfl, rfl⟩
  unfold State.faultInput
  dsimp only
  split
  · exact .stay h rfl (.refl _)
  · split
    · exact .stay h rfl hlevel
    · split
      · refine .stay h rfl (hlevel.trans (.upd ?_))
        rw [State.setLpi_ports, upd_get_self]
        exact .faultEvent _
      · exact clearEvent_changes (h.trans hlevel) p

theorem faultLevelStep_changes (p : PortNo) (level : Bool) (s : State) : Changes s (faultLevelStep p level s) := by
  unfold faultLevelStep
  split
  · exact faultInput_changes (.refl _) p level
  · exact .stay rfl rfl

theorem holdExpiryStep_changes (p : PortNo) (s : State) : Changes s (holdExpiryStep p s) := by
  unfold holdExpiryStep
  split
  · exact enterFaulted_changes s p
  · exact .stay rfl rfl

theorem recoveryExpiryStep_changes (p : PortNo) (s : State) : Changes s (recoveryExpiryStep p s) := by
  unfold recoveryExpiryStep
  split
  · exact recover_changes (.refl _) p
  · exact .stay rfl rfl

/-- The fault side of a line frame, after its payload side (R115). -/
theorem watchLine_changes {ports : Vector Port 4} {s : State} (h : SameLines ports s.ports) (p : PortNo) (alarm : Bool)
    (pulse : Option Nat) : ChangesFrom ports s (s.watchLine p alarm pulse) := by
  have hexpects : SameLines s.ports (s.setLpi p (s.ports[p].lpi.expects pulse)).ports := .upd ⟨rfl, rfl, rfl⟩
  exact faultInput_changes (h.trans hexpects) p _

theorem SameLines.setCch (s : State) (p : PortNo) (c : Cch) : SameLines s.ports (s.setCch p c).ports := .upd (.refl _)

theorem SameLines.carryLine (s : State) (p : PortNo) (rx : Vector Byte 32) : SameLines s.ports (s.carryLine p rx).ports := by
  obtain ⟨c, hc⟩ := State.transmitted_frame s p
  unfold State.carryLine
  rw [hc]
  exact .setCch s p c

theorem carryLine_lsv (s : State) (p : PortNo) (rx : Vector Byte 32) : (s.carryLine p rx).lsv = s.lsv :=
  State.transmitted_lsv s p

theorem SameLines.receiveByte (s : State) (p : PortNo) (b : Byte) : SameLines s.ports (s.receiveByte p b).ports := by
  unfold State.receiveByte
  split
  · exact .setCch s p _
  · exact .refl _

theorem receiveByte_lsv (s : State) (p : PortNo) (b : Byte) : (s.receiveByte p b).lsv = s.lsv := by
  unfold State.receiveByte
  split <;> rfl

theorem lineFrameStep_changes (p : PortNo) (rx : Vector Byte 32) (alarm : Bool) (pulse : Option Nat) (cch : Bool)
    (s : State) : Changes s (lineFrameStep p rx alarm pulse cch s) := by
  have hcarry := SameLines.carryLine s p rx
  unfold lineFrameStep
  dsimp only
  split
  · exact .kept (carryLine_lsv s p rx) hcarry
  · rw [Changes, State.pollServing_lsv, State.pollServing_ports]
    cases cch with
    | false =>
      have h := watchLine_changes hcarry p alarm pulse
      rwa [ChangesFrom, carryLine_lsv] at h
    | true =>
      have h := watchLine_changes
        (hcarry.trans (.receiveByte _ p rx[(s.carryLine p rx).psw.formats[p].signalling])) p alarm pulse
      rwa [ChangesFrom, receiveByte_lsv, carryLine_lsv] at h

/-! ### PORT_SET (R112, R126) -/

theorem liveOnPort_eq_nil {v : Lsv} {p : PortNo} (h : v.liveOnPort p = []) : Vacant v p := by
  intro l hlive hport
  have hmem : l ∈ v.liveOnPort p := (Lsv.mem_liveWhere v _ l).mpr ⟨hlive, by rw [hport]; exact beq_self_eq_true p⟩
  rw [h] at hmem
  cases hmem

theorem opens_line (l : Lpi) : SameLine l l.opens := by
  unfold Lpi.opens
  split
  · exact .faultEvent l
  · exact .refl l

/-- What an accepted PORT_SET does to the line port. -/
theorem configured_configures {v : Lsv} {p : PortNo} {x : Port} {a : PortArgs}
    (format : ¬ (a.format ≠ x.lpi.format ∧ x.lpi.admin ≠ .closed))
    (vacant : ¬ (a.admin = .closed ∧ x.lpi.admin ≠ .closed ∧ v.liveOnPort p ≠ [])) :
    Configures v p x.lpi (x.configured a).lpi := by
  have hformat : x.lpi.admin ≠ .closed → a.format = x.lpi.format := fun ha => by_contra fun hf => format ⟨hf, ha⟩
  have hvacant : a.admin = .closed → x.lpi.admin ≠ .closed → Vacant v p := fun hc ha =>
    liveOnPort_eq_nil (by_contra fun hl => vacant ⟨hc, ha, hl⟩)
  unfold Port.configured
  dsimp only
  split
  case isTrue h =>
    obtain ⟨hclosed, -⟩ := h
    have hopens := opens_line (x.lpi.configured a)
    exact ⟨fun ha => absurd hclosed ha, fun ha => absurd hclosed ha, .inl hopens.faulty⟩
  case isFalse h =>
    split
    case isTrue hc =>
      obtain ⟨ha, hclosed⟩ := hc
      exact ⟨hformat, fun _ _ => hvacant hclosed ha, .inr (hvacant hclosed ha)⟩
    case isFalse hc => exact ⟨hformat, fun ha hclosed => hvacant hclosed ha, .inl rfl⟩

theorem runPortSet_changes (s : State) : Changes s (runPortSet s) := by
  unfold runPortSet
  split
  · next p a _ _ =>
    dsimp only
    split
    · exact .stay rfl rfl
    · split
      · exact .stay rfl rfl
      · next hf hv =>
        refine .configured (p := p) (upd_others _ _) ?_
        show Configures s.lsv p s.ports[p].lpi (upd s.ports p (s.ports[p].configured a))[p].lpi
        rw [upd_get_self]
        exact configured_configures hf hv
  · exact .stay rfl rfl

end Sys2Proof.Spec
end

section
/-! PROOF. The rows that change the tables, each as a change with its guards, and the change of a whole step. -/

namespace Sys2Proof.Spec

open Sys2Proof.Machine

/-- Replies placed at the ports leave the line ports. -/
theorem Changes.ofOp {s : State} (serving : Option PortNo) {o : TableOp} (h : TableChange s.ports s.lsv o.lsv) :
    Changes s (s.afterTables serving o) := by
  rw [Changes, State.afterTables_lsv, State.afterTables_ports]
  exact .tables h (.placeAll serving s.ports o.out)

/-- A row that replaces the tables alone. -/
theorem Changes.ofTables {s t : State} (h : TableChange s.ports s.lsv t.lsv) (hp : t.ports = s.ports) : Changes s t :=
  .tables h (by rw [hp]; exact .refl _)

/-! ### Lease commands -/

/-- A slot argument without a refusal stands for a slot that can be taken (R24, R41). -/
theorem takeable_of_chosen {v : Lsv} {a : SlotArg} {sl : SlotNo} (hr : v.slotRefusal a = none) (hc : v.chosenSlot a = some sl) :
    Takeable v sl := by
  cases a with
  | pool => exact .inl (List.mem_of_mem_head? hc)
  | named x =>
    obtain rfl : x = sl := Option.some.inj hc
    unfold Lsv.slotRefusal at hr
    dsimp only at hr
    split at hr
    · cases hr
    · next htap =>
      rw [tapTarget_iff] at htap
      split at hr
      · cases hr
      · cases hr
      · next hst => exact .inr (.inl hst)
      · next hst => exact .inr (.inr ⟨hst, htap⟩)

/-- A slot argument without a refusal stands for some slot. -/
theorem chosenSlot_isSome {v : Lsv} {a : SlotArg} (hr : v.slotRefusal a = none) : ∃ sl, v.chosenSlot a = some sl := by
  cases a with
  | named x => exact ⟨x, rfl⟩
  | pool =>
    cases hl : v.freeList with
    | nil => rw [Lsv.slotRefusal, hl, if_pos rfl] at hr; cases hr
    | cons x rest => exact ⟨x, by rw [Lsv.chosenSlot, hl]; rfl⟩

/-- What the arguments of LEASE_CREATE that pass row 3 of R24 say. -/
theorem createArgs_some {a0 a1 a2 a3 : Word} {p : PortNo} {f : Format} {a : CreateArgs}
    (h : createArgs a0 a1 a2 a3 p f = some a) :
    a.port = p ∧ f.bearer a.channel = true ∧ (a.kind = .listen → a.slot = none) ∧
      (a.kind ≠ .listen → ∃ x, a.slot = some x) := by
  unfold createArgs at h
  split at h
  · split at h
    · next hb =>
      dsimp only at h
      split at h
      · next hk =>
        obtain rfl := Option.some.inj h
        exact ⟨rfl, hb, fun _ => rfl, fun hn => absurd hk hn⟩
      · next hk =>
        obtain ⟨x, -, rfl⟩ := Option.map_eq_some_iff.mp h
        exact ⟨rfl, hb, fun hl => absurd hl hk, fun _ => ⟨x, rfl⟩⟩
    · cases h
  · cases h

/-- The lowest FREE record is FREE (R15). -/
theorem lowestFree_free {v : Lsv} {n : LeaseNo} (h : v.lowestFree = some n) : v.leases[n].state = .free := by
  unfold Lsv.lowestFree at h
  have hfree := List.find?_some h
  exact eq_of_beq hfree

/-- The parts of rows 4 to 11 of R24, where none refuses. -/
theorem createRefusal_none {v : Lsv} {a : CreateArgs} (h : v.createRefusal a = none) :
    v.entry a.port a.channel = none ∧ v.groupRefusal a = none ∧ a.slot.bind v.slotRefusal = none := by
  unfold Lsv.createRefusal at h
  split at h
  · cases h
  · next he =>
    split at h
    · cases h
    · rw [Option.or_eq_none_iff] at h
      exact ⟨by simpa using he, h⟩

/-- A LEASE_CREATE without a refusal admits its lease (R24). -/
theorem createSlot_admits {v : Lsv} {a : CreateArgs} (hg : v.groupRefusal a = none) (hs : a.slot.bind v.slotRefusal = none)
    (hlisten : a.kind = .listen → a.slot = none) (hslot : a.kind ≠ .listen → ∃ x, a.slot = some x) :
    Admits v (v.createSlot a) a.record := by
  refine ⟨fun hk => ?_, fun hk => ?_, fun hk => ?_, fun hk => ?_⟩
  · simp only [Lsv.createSlot, hlisten hk, Option.bind_none]
  · obtain ⟨x, hx⟩ := hslot hk
    rw [hx] at hs
    obtain ⟨sl, hsl⟩ := chosenSlot_isSome hs
    exact ⟨sl, by simp only [Lsv.createSlot, hx, Option.bind_some, hsl], takeable_of_chosen hs hsl⟩
  · have hk' : a.kind = .talk := hk
    simp only [Lsv.groupRefusal, hk'] at hg
    simpa [CreateArgs.record] using hg
  · have hk' : a.kind = .listen := hk
    simp only [Lsv.groupRefusal, hk'] at hg
    simpa [CreateArgs.record] using hg

theorem runLeaseCreate_changes (s : State) : Changes s (runLeaseCreate s) := by
  unfold runLeaseCreate
  split
  · exact .stay rfl rfl
  · next p _ =>
    split
    · exact .stay rfl rfl
    · next hopen =>
      split
      · exact .stay rfl rfl
      · next a ha =>
        obtain ⟨rfl, hbearer, hlisten, hslot⟩ := createArgs_some ha
        split
        · next n hr hn =>
          obtain ⟨hempty, hg, hs⟩ := createRefusal_none hr
          have hopens : Opens s.ports s.lsv a.record n :=
            ⟨lowestFree_free hn, hempty, hbearer, fun hc => absurd hc hopen, rfl⟩
          exact .ofOp none (o := ⟨_, _, false⟩) (.created s.scope hopens (createSlot_admits hg hs hlisten hslot))
        · exact .stay rfl rfl
        · exact .stay rfl rfl

theorem runLeaseModify_changes (s : State) : Changes s (runLeaseModify s) := by
  unfold runLeaseModify
  split
  · exact .stay rfl rfl
  · next l _ =>
    dsimp only
    split
    · exact .stay rfl rfl
    · next hlive =>
      rw [Bool.not_eq_true, Bool.not_eq_false'] at hlive
      split
      · exact .ofTables (.record (.inl hlive) ⟨rfl, rfl, rfl, rfl, rfl, rfl⟩ rfl rfl) rfl
      · exact .stay rfl rfl

/-- A retirement leaves a record that is not live (R22). -/
theorem retire_dead (v : Lsv) (sc : Option Scope) (cause : RetireCause) (keep : Bool) (l : LeaseNo) :
    (v.retire sc cause keep l).lsv.leases[l].live = false := by
  rw [retire_lease_self', Lease.ended]
  split <;> rfl

theorem runLeaseRetire_changes (s : State) : Changes s (runLeaseRetire s) := by
  unfold runLeaseRetire
  split
  · exact .stay rfl rfl
  · next l _ =>
    have hretire (hlive : s.lsv.leases[l].live = true) (purge : Bool) :
        Changes s (((s.afterTables none (s.lsv.retire s.scope .host false l)).purgeIf purge l).completeRetire .ok l) := by
      have hretired : TableChange s.ports s.lsv (s.lsv.retire s.scope .host false l).lsv := .retired _ _ (.inl hlive)
      cases purge with
      | false => exact .ofOp none hretired
      | true =>
        have hpurged := hretired.trans (.purged (retire_dead s.lsv s.scope .host false l))
        show PartChange s.lsv s.ports ((s.afterTables none _).lsv.purge l) (s.afterTables none _).ports
        rw [State.afterTables_lsv, State.afterTables_ports]
        exact .tables hpurged (.placeAll none s.ports _)
    dsimp only
    split
    · exact .stay rfl rfl
    · next hst =>
      split
      · exact .ofTables (.purged (by rw [Lease.live, hst])) rfl
      · exact .stay rfl rfl
    · next hst => exact hretire (by rw [Lease.live, hst]) _
    · next hst => exact hretire (by rw [Lease.live, hst]) _
    · next hst => exact hretire (by rw [Lease.live, hst]) _

theorem runNoticeTake_changes (s : State) : Changes s (runNoticeTake s) := by
  unfold runNoticeTake
  split
  · exact .stay rfl rfl
  · next h => exact .ofTables (.served h) rfl

theorem runLeaseMove_changes (s : State) : Changes s (runLeaseMove s) := by
  unfold runLeaseMove
  split
  · next l a _ _ =>
    dsimp only
    split
    · exact .stay rfl rfl
    · next hlive =>
      rw [Bool.not_eq_true, Bool.not_eq_false'] at hlive
      split
      · exact .stay rfl rfl
      · next hkind =>
        split
        · next hr hc => exact .ofOp none (o := ⟨_, _, false⟩) (.moved hlive hkind (takeable_of_chosen hr hc))
        · exact .stay rfl rfl
        · exact .stay rfl rfl
  · exact .stay rfl rfl

/-! ### Slots, pool, tap and groups -/

theorem runSlotReserve_changes (s : State) : Changes s (runSlotReserve s) := by
  unfold runSlotReserve
  split
  · exact .stay rfl rfl
  · next sl _ => exact .ofTables (.reserved sl) rfl

theorem runSlotRelease_changes (s : State) : Changes s (runSlotRelease s) := by
  unfold runSlotRelease
  split
  · exact .stay rfl rfl
  · next sl _ =>
    split
    · exact .stay rfl rfl
    · next h => exact .ofTables (.released fun hr ht => h ⟨hr, (tapTarget_iff _ _).mpr ht⟩) rfl

theorem runPoolSet_changes (s : State) : Changes s (runPoolSet s) := by
  unfold runPoolSet
  dsimp only
  split
  · next h => exact .ofTables (.settings _ h.1) rfl
  · exact .stay rfl rfl

theorem runMonitorSet_changes (s : State) : Changes s (runMonitorSet s) := by
  unfold runMonitorSet
  split
  · next l sl _ _ =>
    split
    · exact .stay rfl rfl
    · split
      · exact .stay rfl rfl
      · next hlive =>
        rw [Bool.not_eq_true, Bool.not_eq_false'] at hlive
        split
        · exact .stay rfl rfl
        · next hreserved =>
          exact .ofTables (.tap (fun _ => ⟨sl, rfl, not_not.mp hreserved⟩) fun _ => ⟨l, rfl, hlive⟩) rfl
  · exact .stay rfl rfl

theorem runMonitorClear_changes (s : State) : Changes s (runMonitorClear s) :=
  .ofTables (.tap nofun nofun) rfl

theorem runGroupWrite_changes (s : State) : Changes s (runGroupWrite s) := by
  unfold runGroupWrite
  dsimp only
  split
  · exact .stay rfl rfl
  · split
    · exact .stay rfl rfl
    · next h =>
      split
      · exact .stay rfl rfl
      · exact .ofTables (.group rfl rfl (not_lt.mp fun hc => h (.inl hc))) rfl

/-! ### The walk -/

theorem walkRetire_changes (s : State) (sc : Scope) (l : LeaseNo) : Changes s (s.walkRetire sc l) := by
  unfold State.walkRetire
  split
  · next h =>
    have hlive : s.lsv.leases[l].live = true := (Bool.and_eq_true_iff.mp h).1
    exact .ofOp none (.retired _ _ (.inl hlive))
  · exact .stay rfl rfl

theorem walkVisitAt_changes (s : State) (sc : Scope) (l : LeaseNo) : Changes s (walkVisitAt s sc l) := by
  unfold walkVisitAt
  dsimp only
  split <;> exact walkRetire_changes s sc l

theorem walkVisitStep_changes (s : State) : Changes s (walkVisitStep s) := by
  unfold walkVisitStep
  split
  · exact .stay rfl rfl
  · split
    · exact walkVisitAt_changes s _ _
    · exact .stay rfl rfl

/-! ### Sweeps -/

theorem quarantinePhaseStep_changes (s : State) : Changes s (quarantinePhaseStep s) := by
  unfold quarantinePhaseStep
  split
  · split
    · exact .stay rfl rfl
    · exact .ofTables .phase rfl
  · exact .stay rfl rfl

theorem guardExpiryStep_changes (sl : SlotNo) (s : State) : Changes s (guardExpiryStep sl s) := by
  unfold guardExpiryStep
  split
  · exact .ofTables .phase rfl
  · exact .stay rfl rfl

/-- A visit acts on live records only (R148). -/
theorem visitOf_live {s : State} {l : LeaseNo} (h : s.visitOf l ≠ .pass) : s.lsv.leases[l].live = true := by
  by_contra hl
  rw [Bool.not_eq_true] at hl
  exact h (if_pos (by rw [hl]; rfl))

/-- Raising an idle count leaves the lease what it is (R6). -/
theorem aged_changes (ports : Vector Port 4) {v : Lsv} {l : LeaseNo} (h : v.leases[l].live = true) :
    TableChange ports v (v.aged l) :=
  .record (.inl h) ⟨rfl, rfl, rfl, rfl, rfl, rfl⟩ rfl rfl

theorem aged_live {v : Lsv} {l : LeaseNo} (h : v.leases[l].live = true) : (v.aged l).leases[l].live = true := by
  rw [Lsv.aged, Lsv.setLease_leases, upd_get_self]
  exact h

theorem visitLease_changes (s : State) (l : LeaseNo) : Changes s (s.visitLease l) := by
  unfold State.visitLease
  split
  · exact .stay rfl rfl
  · next h => exact .ofTables (aged_changes _ (visitOf_live (by rw [h]; exact nofun))) rfl
  · next h =>
    have hlive := visitOf_live (s := s) (l := l) (by rw [h]; exact nofun)
    exact .ofOp none ((aged_changes _ hlive).trans (.retired _ _ (.inl (aged_live hlive))))
  · next h => exact .ofOp none (.retired _ _ (.inl (visitOf_live (by rw [h]; exact nofun))))

theorem sweepVisitAt_changes (s : State) (l : LeaseNo) : Changes s (s.sweepVisitAt l) := visitLease_changes s l

theorem sweepVisitStep_changes (s : State) : Changes s (sweepVisitStep s) := by
  unfold sweepVisitStep
  split
  · exact .stay rfl rfl
  · split
    · exact .stay rfl rfl
    · exact sweepVisitAt_changes s _

theorem leaseExpiryStep_changes (s : State) : Changes s (leaseExpiryStep s) := by
  unfold leaseExpiryStep
  split
  · exact .stay rfl rfl
  · split
    · exact sweepVisitAt_changes s _
    · exact .stay rfl rfl

end Sys2Proof.Spec
end

section
/-! PROOF. The serving of a message as a change of the tables (R92 to R106), and the change of a whole step. -/

namespace Sys2Proof.Spec

open Sys2Proof.Machine

/-! ### Steps 6 to 8 of a CLAIM (R98 to R103) -/

/-- The tables that an admission leaves. -/
def Admitted.lsv (a : Admitted) (v : Lsv) : Lsv :=
  match a with
  | .refused _ => v
  | .made op _ _ => op.lsv

theorem grantFromPool_changes {ports : Vector Port 4} {v : Lsv} (sc : Option Scope) (margin : Nat) {r : Lease} {n : LeaseNo}
    (opens : Opens ports v r n) (kind : r.kind ≠ .listen) (talker : r.kind = .talk → v.groups[r.group].talker = none) :
    TableChange ports v (Admitted.lsv (v.grantFromPool sc ports[r.port].lpi.faulty margin r n) v) := by
  unfold Lsv.grantFromPool
  split
  · next sl _ hsl =>
    exact .created sc opens ⟨fun hl => absurd hl kind, fun _ => ⟨sl, rfl, .inl (List.mem_of_mem_head? hsl)⟩, talker,
      fun hl => absurd hl kind⟩
  · exact .same v

theorem preemptTalker_changes {ports : Vector Port 4} {v : Lsv} (sc : Option Scope) {r : Lease} {n t : LeaseNo}
    (opens : Opens ports v r n) (kind : r.kind = .talk) (talker : v.groups[r.group].talker = some t) :
    TableChange ports v (Admitted.lsv (v.preemptTalker sc ports[r.port].lpi.faulty r n t) v) := by
  unfold Lsv.preemptTalker
  dsimp only
  split
  · next sl _ hsl => exact .preempted sc opens kind talker hsl
  · exact .same v

theorem listen_lsv (o : TableOp) (sc : Option Scope) (faulty : Bool) (r : Lease) (n : LeaseNo) (v : Lsv) :
    Admitted.lsv (o.listen sc faulty r n) v = (o.lsv.create sc faulty .absent r n).1 := by
  unfold TableOp.listen
  dsimp only
  split <;> rfl

/-- A fold that chooses among its entries ends with one of them, or with what it began with. -/
theorem foldl_choice_mem {α : Type} {f : Option α → α → Option α}
    (choice : ∀ best x y, f best x = some y → y = x ∨ best = some y) {ls : List α} {start : Option α} {y : α}
    (h : ls.foldl f start = some y) : y ∈ ls ∨ start = some y := by
  induction ls generalizing start with
  | nil => exact .inr h
  | cons x xs ih =>
    obtain hmem | hchosen := ih h
    · exact .inl (List.mem_cons_of_mem x hmem)
    · obtain rfl | hstart := choice start x y hchosen
      · exact .inl List.mem_cons_self
      · exact .inr hstart

/-- The victim of a listener claim is a listener of the group (R63). -/
theorem victim_mem {v : Lsv} {g : GroupNo} {b : LeaseNo} (h : v.victim g = some b) : b ∈ v.groups[g].listeners := by
  unfold Lsv.victim at h
  have hchosen := foldl_choice_mem (fun best x y hxy => ?_) h
  · obtain hmem | hnone := hchosen
    · exact (List.mem_filter.mp hmem).1
    · cases hnone
  · cases best with
    | none => exact .inl (Option.some.inj hxy).symm
    | some c =>
      dsimp only at hxy
      split at hxy
      · exact .inl (Option.some.inj hxy).symm
      · exact .inr hxy

theorem admitListener_changes {ports : Vector Port 4} {v : Lsv} (sc : Option Scope) {r : Lease} {n : LeaseNo}
    (opens : Opens ports v r n) (kind : r.kind = .listen) :
    TableChange ports v (Admitted.lsv (v.admitListener sc ports[r.port].lpi.faulty r n) v) := by
  unfold Lsv.admitListener
  dsimp only
  split
  · exact .same v
  · split
    · next hroom =>
      rw [listen_lsv]
      exact .created sc opens ⟨fun _ => rfl, fun hk => absurd kind hk, fun hk => (nomatch kind.symm.trans hk),
        fun _ => hroom⟩
    · split
      · exact .same v
      · next b hb =>
        split
        · rw [listen_lsv]
          exact .displaced sc opens kind (victim_mem hb)
        · exact .same v

theorem admitLease_changes {ports : Vector Port 4} {v : Lsv} (sc : Option Scope) (margin : Nat) {r : Lease} {n : LeaseNo}
    (opens : Opens ports v r n) :
    TableChange ports v (Admitted.lsv (v.admitLease sc ports[r.port].lpi.faulty margin r n) v) := by
  unfold Lsv.admitLease
  split
  · next hk => exact grantFromPool_changes sc margin opens (by rw [hk]; exact nofun) (by rw [hk]; exact nofun)
  · next hk =>
    split
    · next ht => exact grantFromPool_changes sc margin opens (by rw [hk]; exact nofun) fun _ => ht
    · next ht => exact preemptTalker_changes sc opens hk ht
  · next hk => exact admitListener_changes sc opens hk

/-! ### The message kinds (R93) -/

/-- What steps 1 to 5 of R98 leave of a claim that they do not refuse. -/
theorem earlyRefusal_none {s : State} {p : PortNo} {m : Message} (h : s.earlyRefusal p m = none) :
    s.ports[p].lpi.format.bearer m.channel = true ∧ s.lsv.entry p m.channel = none := by
  unfold State.earlyRefusal at h
  dsimp only at h
  split at h
  · cases h
  · split at h
    · cases h
    · next hb =>
      split at h
      · cases h
      · split at h
        · cases h
        · split at h
          · cases h
          · next he => exact ⟨by simpa using hb, by simpa using he⟩

theorem claimMetered_changes {s : State} {p : PortNo} {m : Message} (k : LeaseKind) (hearly : s.earlyRefusal p m = none)
    (hbuf : s.ports[p].cch.bufA.isSome = true) : TableChange s.ports s.lsv (s.claimMetered p m k).op.lsv := by
  obtain ⟨hbearer, hempty⟩ := earlyRefusal_none hearly
  unfold State.claimMetered
  dsimp only
  split
  · exact .same _
  · split
    · exact .same _
    · next n hn =>
      have hopens : Opens s.ports s.lsv (claimRecord p m k) n := ⟨lowestFree_free hn, hempty, hbearer, fun _ => hbuf, rfl⟩
      have hadmit := admitLease_changes s.scope (s.ports[p].cmt.marginFor s.ports[p].cmt.colour) hopens
      split
      · exact .same _
      · next hmade =>
        exact (congrArg (fun a => TableChange s.ports s.lsv (Admitted.lsv a s.lsv)) hmade).mp hadmit

theorem serveClaim_changes {s : State} {p : PortNo} {m : Message} (hbuf : s.ports[p].cch.bufA.isSome = true) :
    TableChange s.ports s.lsv (s.serveClaim p m).op.lsv := by
  unfold State.serveClaim
  dsimp only
  split
  · exact .same _
  · next hearly _ => exact claimMetered_changes _ hearly hbuf
  · exact .same _

theorem serveRelease_changes (s : State) (p : PortNo) (m : Message) :
    TableChange s.ports s.lsv (s.serveRelease p m).op.lsv := by
  unfold State.serveRelease
  dsimp only
  split
  · exact .same _
  · next l he =>
    split
    · exact .same _
    · exact .retired _ _ (.inr ⟨p, m.channel, he⟩)

theorem serveRefresh_changes (s : State) (p : PortNo) (m : Message) :
    TableChange s.ports s.lsv (s.serveRefresh p m).op.lsv := by
  unfold State.serveRefresh
  dsimp only
  split
  · exact .same _
  · next l he =>
    split
    · exact .same _
    · exact .record (.inr ⟨p, m.channel, he⟩) ⟨rfl, rfl, rfl, rfl, rfl, rfl⟩ rfl rfl

theorem serveQuery_changes (s : State) (p : PortNo) (m : Message) :
    TableChange s.ports s.lsv (s.serveQuery p m).op.lsv := by
  unfold State.serveQuery
  dsimp only
  split <;> exact .same _

theorem serveMessage_changes {s : State} {p : PortNo} {m : Message} (hbuf : s.ports[p].cch.bufA.isSome = true) :
    TableChange s.ports s.lsv (s.serveMessage p m).op.lsv := by
  unfold State.serveMessage
  split
  · exact serveClaim_changes hbuf
  · exact serveRelease_changes s p m
  · exact serveRefresh_changes s p m
  · exact serveQuery_changes s p m
  · exact .same _

/-! ### SERVING (R91, R92) -/

theorem noteRefusal_stay (s : State) (p : PortNo) (m : Message) (r : Option Reason) :
    (s.noteRefusal p m r).lsv = s.lsv ∧ (s.noteRefusal p m r).ports = s.ports := by
  cases r <;> exact ⟨rfl, rfl⟩

theorem serve_changes {s : State} {p : PortNo} {m : Message} (hbuf : s.ports[p].cch.bufA.isSome = true) :
    Changes s (s.serve p m) := by
  have htables := serveMessage_changes (m := m) hbuf
  unfold State.serve
  dsimp only
  refine Changes.trans_stay ?_ (noteRefusal_stay ..).1 (noteRefusal_stay ..).2
  rw [Changes, State.setCch_lsv, State.afterTables_lsv]
  refine .tables htables (SameLines.trans ?_ (.setCch _ p _))
  have hconsume : SameLines s.ports (s.setPort p
      { s.ports[p] with cch := s.ports[p].cch.consume, cmt := (s.serveMessage p m).meter }).ports := .upd (.refl _)
  rw [State.afterTables_ports]
  exact hconsume.trans (.placeAll _ _ _)

/-- The port a serving takes is eligible, so that its buffer A holds a message (R91, R92). -/
theorem nextPort_bufA {s : State} {p : PortNo} (h : s.nextPort = some p) : s.ports[p].cch.bufA.isSome = true := by
  have heligible := List.find?_some h
  exact ((Port.eligible_iff _).mp heligible).1

theorem serveNext_changes (s : State) : Changes s s.serveNext := by
  unfold State.serveNext
  split
  · exact .stay rfl rfl
  · next p hp =>
    split
    · exact .stay rfl rfl
    · exact serve_changes (nextPort_bufA hp)

theorem servingStep_changes (s : State) : Changes s (servingStep s) := by
  unfold servingStep
  split
  · exact (serveNext_changes s).trans_stay (State.pollServing_lsv _) (State.pollServing_ports _)
  · exact .stay rfl rfl

/-! ### The change of a step -/

/-- The change that each row makes. -/
theorem exec_changes {i : Instr} {s t : State} (h : exec i s = .next t) : Changes s t := by
  cases i <;> obtain rfl := Host.Outcome.next.inj h
  case leaseRead ph => exact hostCommand_changes _ ph runLeaseRead_changes s
  case leaseFind ph => exact hostCommand_changes _ ph runLeaseFind_changes s
  case leaseCreate ph => exact hostCommand_changes _ ph runLeaseCreate_changes s
  case leaseModify ph => exact hostCommand_changes _ ph runLeaseModify_changes s
  case leaseRetire ph => exact hostCommand_changes _ ph runLeaseRetire_changes s
  case noticeTake ph => exact hostCommand_changes _ ph runNoticeTake_changes s
  case slotRead ph => exact hostCommand_changes _ ph runSlotRead_changes s
  case slotReserve ph => exact hostCommand_changes _ ph runSlotReserve_changes s
  case slotRelease ph => exact hostCommand_changes _ ph runSlotRelease_changes s
  case leaseMove ph => exact hostCommand_changes _ ph runLeaseMove_changes s
  case poolRead ph => exact hostCommand_changes _ ph runPoolRead_changes s
  case poolSet ph => exact hostCommand_changes _ ph runPoolSet_changes s
  case monitorSet ph => exact hostCommand_changes _ ph runMonitorSet_changes s
  case monitorClear ph => exact hostCommand_changes _ ph runMonitorClear_changes s
  case groupRead ph => exact hostCommand_changes _ ph runGroupRead_changes s
  case groupWrite ph => exact hostCommand_changes _ ph runGroupWrite_changes s
  case listenerRead ph => exact hostCommand_changes _ ph runListenerRead_changes s
  case portRead ph => exact hostCommand_changes _ ph runPortRead_changes s
  case portSet ph => exact hostCommand_changes _ ph runPortSet_changes s
  case meterRead ph => exact hostCommand_changes _ ph runMeterRead_changes s
  case meterSet ph => exact hostCommand_changes _ ph runMeterSet_changes s
  case countersRead ph => exact hostCommand_changes _ ph runCountersRead_changes s
  case highwayRead ph => exact hostCommand_changes _ ph runHighwayRead_changes s
  case highwaySet ph => exact hostCommand_changes _ ph runHighwaySet_changes s
  case sweepRead ph => exact hostCommand_changes _ ph runSweepRead_changes s
  case sweepSet ph => exact hostCommand_changes _ ph runSweepSet_changes s
  case refusalRead ph => exact hostCommand_changes _ ph runRefusalRead_changes s
  case retireScope ph => exact retireScopeStep_changes ph s
  case walkVisit => exact walkVisitStep_changes s
  case abort => exact abortStep_changes s
  case walkEnding => exact walkEndingStep_changes s
  case softReset => exact softResetStep_changes s
  case unknownCommand w => exact unknownCommandStep_changes w s
  case collision w => exact collisionStep_changes w s
  case istatRead => exact .stay rfl rfl
  case istatWrite w => exact istatWriteStep_changes w s
  case ienWrite w => exact ienWriteStep_changes w s
  case registerWrite n w => exact registerWriteStep_changes n w s
  case headerByteInGather p b => exact headerInGatherStep_changes p b s
  case messageComplete p b => exact messageCompleteStep_changes p b s
  case serving => exact servingStep_changes s
  case replySent p => exact replySentStep_changes p s
  case lineFrame p rx alarm pulse cch => exact lineFrameStep_changes p rx alarm pulse cch s
  case frameStart => exact frameStartStep_changes s
  case committedRefill p => exact refillStep_changes _ p s
  case excessRefill p => exact refillStep_changes _ p s
  case faultAsserted p => exact faultLevelStep_changes p true s
  case faultCleared p => exact faultLevelStep_changes p false s
  case holdExpiry p => exact holdExpiryStep_changes p s
  case recoveryExpiry p => exact recoveryExpiryStep_changes p s
  case sweepTick => exact sweepTickStep_changes s
  case lost p => exact lostStep_changes p s
  case quarantinePhase => exact quarantinePhaseStep_changes s
  case guardExpiry sl => exact guardExpiryStep_changes sl s
  case sweepVisit => exact sweepVisitStep_changes s
  case leaseExpiry => exact leaseExpiryStep_changes s
  case highwayPulse t hwIn => exact highwayPulseStep_changes t hwIn s
  case pulseMissing hwIn => exact pulseMissingStep_changes hwIn s
  case holdAsserted => exact .stay rfl rfl
  case holdReleased => exact .stay rfl rfl
  case resetAsserted => exact .initial _
  case resetReleased => exact .stay rfl rfl
  case headerByteInHunt p b => exact headerInHuntStep_changes p b s
  case continuationByteInGather p b => exact continuationInGatherStep_changes p b s

/-- A step makes one change. -/
theorem step_changes {s t : State} (h : step s = .next t) : Changes s t := by
  unfold step at h
  split at h
  · obtain rfl := Host.Outcome.next.inj h
    exact .stay rfl rfl
  · next rest _ =>
    have hexec := exec_changes h
    exact hexec

end Sys2Proof.Spec
end

section
/-! PROOF. What a change of the tables leaves of the other leases, and the invariants of groups and channel map (O54, O55). -/

namespace Sys2Proof.Spec

open Sys2Proof.Machine

/-! ### Turns and the records they leave -/

theorem Alike.refl (r : Lease) : Alike r r := ⟨rfl, rfl, rfl, rfl, rfl, rfl⟩

theorem Alike.trans {a b c : Lease} (h : Alike a b) (h' : Alike b c) : Alike a c :=
  ⟨h'.live.trans h.live, h'.kind.trans h.kind, h'.port.trans h.port, h'.channel.trans h.channel, h'.group.trans h.group,
    h'.slot.trans h.slot⟩

/-- A state that is live exactly when the record's is. -/
theorem Alike.ofState {r : Lease} {st : LeaseState} (h : ({ r with state := st }).live = r.live) :
    Alike r { r with state := st } := ⟨h, rfl, rfl, rfl, rfl, rfl⟩

theorem Alike.noticed (v : Lsv) (k : Notice) (r : Lease) : Alike r (noticed v k r) := by
  rw [noticed_keeps]
  exact ⟨rfl, rfl, rfl, rfl, rfl, rfl⟩

theorem Alike.afterTurn {f : Lease → LeaseState} {r : Lease} (h : ({ r with state := f r }).live = r.live) (k : Notice)
    (v : Lsv) : Alike r (afterTurn f k v r) :=
  (Alike.ofState h).trans (.noticed v k _)

/-- The record is the same lease, and CONDITIONED exactly when it was. -/
structure Steady (r r' : Lease) : Prop extends Alike r r' where
  conditioned : r'.state = .conditioned ↔ r.state = .conditioned

theorem Steady.refl (r : Lease) : Steady r r := ⟨.refl r, .rfl⟩

theorem Steady.trans {a b c : Lease} (h : Steady a b) (h' : Steady b c) : Steady a c :=
  ⟨h.toAlike.trans h'.toAlike, h'.conditioned.trans h.conditioned⟩

/-- Turns that each keep a lease steady keep it steady together. -/
theorem changeAll_steady {f : Lease → LeaseState} {k : Notice} (turn : ∀ v r, Steady r (afterTurn f k v r))
    (ls : List LeaseNo) (v : Lsv) (j : LeaseNo) : Steady v.leases[j] (ls.foldl (changeLease f k) v).leases[j] := by
  induction ls generalizing v with
  | nil => exact .refl _
  | cons l ls ih =>
    refine Steady.trans ?_ (ih (changeLease f k v l))
    rw [changeLease_lease_eq]
    split
    · exact turn v _
    · exact .refl _

/-- A change of talker moves a lease between ACTIVE and WAITING at most (R18, R56). -/
theorem turned_steady {old new : LeaseState} (hold : old = .active ∨ old = .waiting) (hnew : new = .active ∨ new = .waiting)
    (k : Notice) (v : Lsv) (r : Lease) : Steady r (afterTurn (turned old new) k v r) := by
  have hlive : ({ r with state := turned old new r }).live = r.live := by
    unfold turned
    split
    · next h => obtain rfl | rfl := hold <;> obtain rfl | rfl := hnew <;> simp only [Lease.live, h]
    · rfl
  refine ⟨.afterTurn hlive k v, ?_⟩
  rw [afterTurn, noticed_state]
  dsimp only [turned]
  split
  · next h => obtain rfl | rfl := hold <;> obtain rfl | rfl := hnew <;> simp [h]
  · rfl

theorem arrivalTurn_steady (ns : NewSlot) (k : Notice) (v : Lsv) (r : Lease) : Steady r (afterTurn (arrivalTurn ns) k v r) := by
  cases ns with
  | taken sl => exact turned_steady (.inr rfl) (.inl rfl) k v r
  | passed sl => exact ⟨.noticed v k r, by rw [afterTurn, noticed_state]; rfl⟩
  | absent => exact ⟨.noticed v k r, by rw [afterTurn, noticed_state]; rfl⟩

/-! ### What a retirement and a creation leave of the other leases -/

theorem departing_steady (v : Lsv) (keep : Bool) (l j : LeaseNo) : Steady v.leases[j] (departing v keep l).leases[j] := by
  have h := changeAll_steady (turned_steady (.inl rfl) (.inr rfl) .talkerChange)
    (departureList v.groups[v.leases[l].group] keep v.leases[l].kind) (vacated v keep l) j
  rwa [vacated_leases] at h

theorem retire_steady (v : Lsv) (sc : Option Scope) (cause : RetireCause) (keep : Bool) {l j : LeaseNo} (h : j ≠ l) :
    Steady v.leases[j] (v.retire sc cause keep l).lsv.leases[j] := by
  rw [retire_lease_other' v sc cause keep h]
  exact departing_steady v keep l j

theorem retire_slot_none (v : Lsv) (sc : Option Scope) (cause : RetireCause) (keep : Bool) (l : LeaseNo) :
    (v.retire sc cause keep l).lsv.leases[l].slot = none := by
  rw [retire_lease_self', Lease.ended]
  split <;> rfl

theorem create_steady (v : Lsv) (sc : Option Scope) (fault : Bool) (ns : NewSlot) (r : Lease) {n j : LeaseNo} (h : j ≠ n) :
    Steady v.leases[j] (v.create sc fault ns r n).1.leases[j] := by
  have hturns := changeAll_steady (arrivalTurn_steady ns .talkerChange) (arrivalList v.groups[r.group] ns r.kind)
    (seated v fault ns r n) j
  rwa [seated_lease_other v fault ns r h, ← create_fst v sc] at hturns

/-- The new record, whatever turn it has had. -/
theorem create_steady_self (v : Lsv) (sc : Option Scope) (fault : Bool) (ns : NewSlot) (r : Lease) (n : LeaseNo) :
    Steady { r with state := v.newState fault r.kind r.group, slot := ns.slot } (v.create sc fault ns r n).1.leases[n] := by
  have hturns := changeAll_steady (arrivalTurn_steady ns .talkerChange) (arrivalList v.groups[r.group] ns r.kind)
    (seated v fault ns r n) n
  rwa [seated_leases, upd_get_self, ← create_fst v sc] at hturns

/-- A new lease is CONDITIONED exactly on a faulty port (R9). -/
theorem newState_conditioned (v : Lsv) (fault : Bool) (k : LeaseKind) (g : GroupNo) :
    v.newState fault k g = .conditioned ↔ fault = true := by
  unfold Lsv.newState
  cases fault with
  | true => simp
  | false =>
    rw [if_neg Bool.false_ne_true]
    split <;> simp

theorem newState_live (v : Lsv) (fault : Bool) (r : Lease) (o : Option SlotNo) :
    ({ r with state := v.newState fault r.kind r.group, slot := o }).live = true := by
  rw [Lease.live_iff]
  unfold Lsv.newState
  dsimp only
  split
  · exact .inr (.inr rfl)
  · split
    · exact .inr (.inl rfl)
    · exact .inl rfl

theorem create_live (v : Lsv) (sc : Option Scope) (fault : Bool) (ns : NewSlot) (r : Lease) (n : LeaseNo) :
    (v.create sc fault ns r n).1.leases[n].live = true :=
  (create_steady_self v sc fault ns r n).live.trans (newState_live v fault r ns.slot)

/-! ### The leases of a port (R117, R120) -/

theorem mem_liveOnPort {v : Lsv} {p : PortNo} {l : LeaseNo} :
    l ∈ v.liveOnPort p ↔ v.leases[l].live = true ∧ v.leases[l].port = p := by
  unfold Lsv.liveOnPort
  rw [Lsv.mem_liveWhere, beq_iff_eq]

theorem conditionPort_lease (v : Lsv) (p : PortNo) (j : LeaseNo) :
    (v.conditionPort p).leases[j] =
      if j ∈ v.liveOnPort p then afterTurn (fun _ => .conditioned) .conditioned v v.leases[j] else v.leases[j] :=
  changeAll_lease _ _ (v.liveWhere_nodup _) v j

theorem restorePort_lease (v : Lsv) (p : PortNo) (j : LeaseNo) :
    (v.restorePort p).leases[j] =
      if j ∈ v.liveOnPort p then afterTurn v.restoredState .restored v v.leases[j] else v.leases[j] :=
  changeAll_lease _ _ (v.liveWhere_nodup _) v j

theorem live_of_state {r : Lease} {st : LeaseState} (h : st = .active ∨ st = .waiting ∨ st = .conditioned) :
    ({ r with state := st }).live = true :=
  (Lease.live_iff _).mpr h

/-- At its port's recovery a lease becomes WAITING or ACTIVE (R120). -/
theorem restoredState_cases (v : Lsv) (r : Lease) : v.restoredState r = .waiting ∨ v.restoredState r = .active := by
  unfold Lsv.restoredState
  split
  · exact .inl rfl
  · exact .inr rfl

theorem conditionPort_alike (v : Lsv) (p : PortNo) (j : LeaseNo) : Alike v.leases[j] (v.conditionPort p).leases[j] := by
  rw [conditionPort_lease]
  split
  · next h => exact .afterTurn ((live_of_state (.inr (.inr rfl))).trans (mem_liveOnPort.mp h).1.symm) _ v
  · exact .refl _

theorem restorePort_alike (v : Lsv) (p : PortNo) (j : LeaseNo) : Alike v.leases[j] (v.restorePort p).leases[j] := by
  rw [restorePort_lease]
  split
  · next h =>
    have hlive := live_of_state (r := v.leases[j]) ((restoredState_cases v v.leases[j]).symm.imp_right .inl)
    exact .afterTurn (hlive.trans (mem_liveOnPort.mp h).1.symm) _ v
  · exact .refl _

end Sys2Proof.Spec
end

section
/-! PROOF. The groups hold their leases and the channel map names live leases: each change of the tables keeps both, and O54 and
O55. -/

namespace Sys2Proof.Spec

open Sys2Proof.Machine

/-! ### Records that stay the same live leases -/

/-- The record is live exactly when it was, and then it is the same lease on the same channel and in the same group. -/
structure SameLive (r r' : Lease) : Prop where
  live : r'.live = r.live
  kind : r.live = true → r'.kind = r.kind
  port : r.live = true → r'.port = r.port
  channel : r.live = true → r'.channel = r.channel
  group : r.live = true → r'.group = r.group

theorem Alike.sameLive {r r' : Lease} (h : Alike r r') : SameLive r r' :=
  ⟨h.live, fun _ => h.kind, fun _ => h.port, fun _ => h.channel, fun _ => h.group⟩

theorem SameLive.refl (r : Lease) : SameLive r r := (Alike.refl r).sameLive

theorem SameLive.ofDead {r r' : Lease} (h : r.live = false) (h' : r'.live = false) : SameLive r r' :=
  ⟨h'.trans h.symm, fun hl => (nomatch h.symm.trans hl), fun hl => (nomatch h.symm.trans hl),
    fun hl => (nomatch h.symm.trans hl), fun hl => (nomatch h.symm.trans hl)⟩

/-- Replacing one record by the same live lease. -/
theorem SameLive.setLease {v : Lsv} {l : LeaseNo} {r : Lease} (h : SameLive v.leases[l] r) (j : LeaseNo) :
    SameLive v.leases[j] (v.setLease l r).leases[j] := by
  rw [Lsv.setLease_leases, upd_get]
  split
  · next hj => subst hj; exact h
  · exact .refl _

/-- Taking a record's notices ends it, or leaves the live lease (R11). -/
theorem SameLive.noticesTaken (r : Lease) : SameLive r r.noticesTaken := by
  unfold Lease.noticesTaken
  split
  · next h => exact .ofDead (by rw [Lease.live, h]) rfl
  · exact Alike.sameLive ⟨rfl, rfl, rfl, rfl, rfl, rfl⟩

theorem dead_of_free {r : Lease} (h : r.state = .free) : r.live = false := by rw [Lease.live, h]

theorem not_free_of_live {r : Lease} (h : r.live = true) : r.state ≠ .free := fun hf => by
  rw [dead_of_free hf] at h
  cases h

/-! ### The two invariants where leases and places stay -/

theorem grouped_of_sameLive {v w : Lsv} (h : v.Grouped) (leases : ∀ l : LeaseNo, SameLive v.leases[l] w.leases[l])
    (listeners : ∀ g : GroupNo, w.groups[g].listeners = v.groups[g].listeners)
    (talker : ∀ g : GroupNo, w.groups[g].talker = v.groups[g].talker) (cap : ∀ g : GroupNo, w.groups[g].listenerCap ≤ 16) :
    w.Grouped := by
  have hrole (g : GroupNo) (k : LeaseKind) (l : LeaseNo) :
      (w.leases[l].live = true ∧ w.leases[l].kind = k ∧ w.leases[l].group = g) ↔
        (v.leases[l].live = true ∧ v.leases[l].kind = k ∧ v.leases[l].group = g) := by
    rw [(leases l).live]
    exact and_congr_right fun hl => by rw [(leases l).kind hl, (leases l).group hl]
  refine ⟨fun g => ?_, fun g l => ?_, fun g => ?_, cap, fun g l => ?_⟩
  · rw [listeners]; exact h.once g
  · rw [listeners, hrole]; exact h.lists g l
  · rw [listeners]; exact h.short g
  · rw [talker, hrole]; exact h.talker g l

theorem mapped_of_sameLive {v w : Lsv} (h : v.Mapped) (leases : ∀ l : LeaseNo, SameLive v.leases[l] w.leases[l])
    (entry : ∀ (p : PortNo) (c : ChanNo), w.entry p c = v.entry p c)
    (free : ∀ l : LeaseNo, w.leases[l].state = .free → w.leases[l] = v.leases[l] ∨ w.leases[l] = Lease.cleared) :
    w.Mapped := by
  refine ⟨fun l hl => ?_, fun p c l he => ?_, fun l hf => ?_⟩
  · rw [(leases l).live] at hl
    rw [entry, (leases l).port hl, (leases l).channel hl]
    exact h.bound l hl
  · rw [entry] at he
    obtain ⟨hl, hp, hc⟩ := h.names p c l he
    rw [(leases l).live, (leases l).port hl, (leases l).channel hl]
    exact ⟨hl, hp, hc⟩
  · obtain hsame | hcleared := free l hf
    · rw [hsame] at hf ⊢
      exact h.free l hf
    · exact hcleared

/-- The two invariants together, as the changes keep them. -/
structure Tied (v : Lsv) : Prop where
  grouped : v.Grouped
  mapped : v.Mapped

/-- Where groups and channel map stay, the two invariants are a matter of the records. -/
theorem Tied.ofLeases {v w : Lsv} (h : Tied v) (hg : w.groups = v.groups) (hm : w.chanMap = v.chanMap)
    (leases : ∀ l : LeaseNo, SameLive v.leases[l] w.leases[l])
    (free : ∀ l : LeaseNo, w.leases[l].state = .free → w.leases[l] = v.leases[l] ∨ w.leases[l] = Lease.cleared) : Tied w :=
  ⟨grouped_of_sameLive h.grouped leases (fun g => by rw [hg]) (fun g => by rw [hg])
      fun g => by rw [hg]; exact h.grouped.cap g,
    mapped_of_sameLive h.mapped leases (fun p c => by rw [Lsv.entry, Lsv.entry, hm]) free⟩

/-- Where records, groups and channel map all stay. -/
theorem Tied.ofSame {v w : Lsv} (h : Tied v) (hl : w.leases = v.leases) (hg : w.groups = v.groups)
    (hm : w.chanMap = v.chanMap) : Tied w :=
  h.ofLeases hg hm (fun l => by rw [hl]; exact .refl _) fun l _ => .inl (by rw [hl])

/-- Where one record is replaced. -/
theorem Tied.setLease {v : Lsv} (h : Tied v) {l : LeaseNo} {r : Lease} (hr : SameLive v.leases[l] r)
    (free : r.state = .free → r = v.leases[l] ∨ r = Lease.cleared) : Tied (v.setLease l r) := by
  refine h.ofLeases rfl rfl (SameLive.setLease hr) fun j hj => ?_
  rw [Lsv.setLease_leases, upd_get] at hj ⊢
  split at hj
  · next hlj => subst hlj; rw [if_pos rfl]; exact free hj
  · next hlj => rw [if_neg hlj]; exact .inl rfl

/-- A record that is live or that the channel map names is live (R12). -/
theorem Tied.bound_live {v : Lsv} (h : Tied v) {l : LeaseNo} (hb : Bound v l) : v.leases[l].live = true := by
  obtain hl | ⟨p, c, he⟩ := hb
  · exact hl
  · exact (h.mapped.names p c l he).1

/-- The leases given a turn at a retirement are live listeners of the group. -/
theorem Grouped.mem_departureList {v : Lsv} (h : v.Grouped) {g : GroupNo} {keep : Bool} {k : LeaseKind} {j : LeaseNo}
    (hj : j ∈ departureList v.groups[g] keep k) :
    v.leases[j].live = true ∧ v.leases[j].kind = .listen ∧ v.leases[j].group = g :=
  (h.lists g j).mp (Spec.mem_departureList.mp hj).2

theorem Grouped.mem_arrivalList {v : Lsv} (h : v.Grouped) {g : GroupNo} {ns : NewSlot} {k : LeaseKind} {j : LeaseNo}
    (hj : j ∈ arrivalList v.groups[g] ns k) :
    v.leases[j].live = true ∧ v.leases[j].kind = .listen ∧ v.leases[j].group = g :=
  (h.lists g j).mp (Spec.mem_arrivalList.mp hj).2

/-! ### Retirement (R12, R16 to R18) -/

/-- The listeners of a group after a retirement. -/
theorem retire_listeners {v : Lsv} (h : v.Grouped) (sc : Option Scope) (cause : RetireCause) (keep : Bool) {l : LeaseNo}
    (g : GroupNo) (j : LeaseNo) :
    j ∈ (v.retire sc cause keep l).lsv.groups[g].listeners ↔
      j ∈ v.groups[g].listeners ∧ ¬ (j = l ∧ v.leases[l].kind = .listen ∧ g = v.leases[l].group) := by
  by_cases hg : g = v.leases[l].group
  · subst hg
    rw [retire_group_self]
    unfold leftGroup
    cases hk : v.leases[l].kind with
    | duplex | talk => simp
    | listen =>
      rw [and_iff_left (a := j = l) ⟨rfl, rfl⟩]
      exact (h.once _).mem_erase_iff.trans and_comm
  · rw [retire_group_other _ _ _ _ _ hg]
    exact (and_iff_left fun hx => hg hx.2.2).symm

/-- The talker of a group after a retirement. -/
theorem retire_talker (v : Lsv) (sc : Option Scope) (cause : RetireCause) (keep : Bool) (l : LeaseNo) (g : GroupNo)
    (j : LeaseNo) :
    (v.retire sc cause keep l).lsv.groups[g].talker = some j ↔
      v.groups[g].talker = some j ∧ ¬ (v.leases[l].kind = .talk ∧ g = v.leases[l].group) := by
  by_cases hg : g = v.leases[l].group
  · subst hg
    rw [retire_group_self]
    unfold leftGroup
    cases v.leases[l].kind <;> simp
  · rw [retire_group_other _ _ _ _ _ hg]
    exact (and_iff_left fun hx => hg hx.2).symm

/-- A retirement shortens a listener list at most, and leaves the configuration. -/
theorem retire_group_bounds (v : Lsv) (sc : Option Scope) (cause : RetireCause) (keep : Bool) (l : LeaseNo) (g : GroupNo) :
    (v.retire sc cause keep l).lsv.groups[g].listeners.Sublist v.groups[g].listeners ∧
      (v.retire sc cause keep l).lsv.groups[g].listenerCap = v.groups[g].listenerCap := by
  by_cases hg : g = v.leases[l].group
  · subst hg
    rw [retire_group_self]
    unfold leftGroup
    cases v.leases[l].kind with
    | duplex | talk => exact ⟨List.Sublist.refl _, rfl⟩
    | listen => exact ⟨List.erase_sublist, rfl⟩
  · rw [retire_group_other _ _ _ _ _ hg]
    exact ⟨List.Sublist.refl _, rfl⟩

/-- The leases that are live after a retirement. -/
theorem retire_live_iff (v : Lsv) (sc : Option Scope) (cause : RetireCause) (keep : Bool) (l j : LeaseNo) :
    (v.retire sc cause keep l).lsv.leases[j].live = true ↔ j ≠ l ∧ v.leases[j].live = true := by
  by_cases hj : j = l
  · subst hj
    rw [retire_dead]
    exact iff_of_false Bool.false_ne_true fun hx => hx.1 rfl
  · rw [(retire_steady v sc cause keep hj).live]
    exact (and_iff_right hj).symm

theorem grouped_retire {v : Lsv} (h : v.Grouped) (sc : Option Scope) (cause : RetireCause) (keep : Bool) {l : LeaseNo}
    (hl : v.leases[l].live = true) : (v.retire sc cause keep l).lsv.Grouped := by
  have hrole (g : GroupNo) (k : LeaseKind) (j : LeaseNo) :
      ((v.retire sc cause keep l).lsv.leases[j].live = true ∧ (v.retire sc cause keep l).lsv.leases[j].kind = k ∧
          (v.retire sc cause keep l).lsv.leases[j].group = g) ↔
        j ≠ l ∧ (v.leases[j].live = true ∧ v.leases[j].kind = k ∧ v.leases[j].group = g) := by
    rw [retire_live_iff, and_assoc]
    refine and_congr_right fun hj => ?_
    rw [(retire_steady v sc cause keep hj).kind, (retire_steady v sc cause keep hj).group]
  refine ⟨fun g => ?_, fun g j => ?_, fun g => ?_, fun g => ?_, fun g j => ?_⟩
  · exact (h.once g).sublist (retire_group_bounds v sc cause keep l g).1
  · rw [retire_listeners h, hrole, h.lists, and_comm]
    refine and_congr_left fun hjv => not_congr ⟨fun hx => hx.1, fun hjl => ?_⟩
    subst hjl
    exact ⟨rfl, hjv.2.1, hjv.2.2.symm⟩
  · exact (retire_group_bounds v sc cause keep l g).1.length_le.trans (h.short g)
  · rw [(retire_group_bounds v sc cause keep l g).2]
    exact h.cap g
  · rw [retire_talker, hrole, h.talker, and_comm]
    refine and_congr_left fun hjv => not_congr ⟨fun hx => ?_, fun hjl => ?_⟩
    · have ht := (h.talker g j).mpr hjv
      rw [(h.talker g l).mpr ⟨hl, hx.1, hx.2.symm⟩] at ht
      exact (Option.some.inj ht).symm
    · subst hjl
      exact ⟨hjv.2.1, hjv.2.2.symm⟩

/-- A record that a retirement leaves FREE was FREE before, or is the retired one, cleared. -/
theorem retire_free {v : Lsv} (h : v.Grouped) (sc : Option Scope) (cause : RetireCause) (keep : Bool) {l j : LeaseNo}
    (hf : (v.retire sc cause keep l).lsv.leases[j].state = .free) :
    (j ≠ l ∧ (v.retire sc cause keep l).lsv.leases[j] = v.leases[j]) ∨
      (j = l ∧ (v.retire sc cause keep l).lsv.leases[j] = Lease.cleared) := by
  by_cases hj : j = l
  · refine .inr ⟨hj, ?_⟩
    subst hj
    rw [retire_lease_self', Lease.ended] at hf ⊢
    split at hf
    · next hn => rw [if_pos hn]
    · cases hf
  · refine .inl ⟨hj, retire_lease_untouched v sc cause keep hj fun hmem => ?_⟩
    refine not_free_of_live ?_ hf
    rw [(retire_steady v sc cause keep hj).live]
    exact (Grouped.mem_departureList h hmem).1

theorem mapped_retire {v : Lsv} (h : Tied v) (sc : Option Scope) (cause : RetireCause) (keep : Bool) {l : LeaseNo}
    (hl : v.leases[l].live = true) : (v.retire sc cause keep l).lsv.Mapped := by
  have hplace := h.mapped.bound l hl
  refine ⟨fun j hj => ?_, fun p c j he => ?_, fun j hf => ?_⟩
  · obtain ⟨hjl, hj⟩ := (retire_live_iff v sc cause keep l j).mp hj
    have hsame := retire_steady v sc cause keep hjl
    rw [retire_entry, hsame.port, hsame.channel, if_neg]
    · exact h.mapped.bound j hj
    · rintro ⟨hp, hc⟩
      have hother := h.mapped.bound j hj
      rw [hp, hc, hplace] at hother
      exact hjl (Option.some.inj hother).symm
  · rw [retire_entry] at he
    split at he
    · cases he
    · next hne =>
      obtain ⟨hj, hp, hc⟩ := h.mapped.names p c j he
      have hjl : j ≠ l := by
        rintro rfl
        exact hne ⟨hp.symm, hc.symm⟩
      have hsame := retire_steady v sc cause keep hjl
      rw [hsame.live, hsame.port, hsame.channel]
      exact ⟨hj, hp, hc⟩
  · obtain ⟨-, hsame⟩ | ⟨-, hcleared⟩ := retire_free h.grouped sc cause keep hf
    · rw [hsame] at hf ⊢
      exact h.mapped.free j hf
    · exact hcleared

theorem Tied.retire {v : Lsv} (h : Tied v) (sc : Option Scope) (cause : RetireCause) (keep : Bool) {l : LeaseNo}
    (hl : v.leases[l].live = true) : Tied (v.retire sc cause keep l).lsv :=
  ⟨grouped_retire h.grouped sc cause keep hl, mapped_retire h sc cause keep hl⟩

/-! ### Creation (R9, R12, R55, R60) -/

theorem create_listeners (v : Lsv) (sc : Option Scope) (fault : Bool) (ns : NewSlot) (r : Lease) (n : LeaseNo) (g : GroupNo) :
    (v.create sc fault ns r n).1.groups[g].listeners =
      if r.kind = .listen ∧ g = r.group then v.groups[g].listeners ++ [n] else v.groups[g].listeners := by
  by_cases hg : g = r.group
  · subst hg
    rw [create_group_self]
    unfold joinedGroup
    cases r.kind <;> simp
  · rw [create_group_other _ _ _ _ _ _ hg]
    simp [hg]

theorem create_talker (v : Lsv) (sc : Option Scope) (fault : Bool) (ns : NewSlot) (r : Lease) (n : LeaseNo) (g : GroupNo) :
    (v.create sc fault ns r n).1.groups[g].talker =
      if r.kind = .talk ∧ g = r.group then some n else v.groups[g].talker := by
  by_cases hg : g = r.group
  · subst hg
    rw [create_group_self]
    unfold joinedGroup
    cases r.kind <;> simp
  · rw [create_group_other _ _ _ _ _ _ hg]
    simp [hg]

theorem create_cap (v : Lsv) (sc : Option Scope) (fault : Bool) (ns : NewSlot) (r : Lease) (n : LeaseNo) (g : GroupNo) :
    (v.create sc fault ns r n).1.groups[g].listenerCap = v.groups[g].listenerCap := by
  rw [create_groups]
  exact upd_get_apply Group.listenerCap (by unfold joinedGroup; cases r.kind <;> rfl) g

theorem create_role (v : Lsv) (sc : Option Scope) (fault : Bool) (ns : NewSlot) (r : Lease) {n : LeaseNo}
    (hn : v.leases[n].live = false) (g : GroupNo) (k : LeaseKind) (j : LeaseNo) :
    ((v.create sc fault ns r n).1.leases[j].live = true ∧ (v.create sc fault ns r n).1.leases[j].kind = k ∧
        (v.create sc fault ns r n).1.leases[j].group = g) ↔
      (j = n ∧ r.kind = k ∧ r.group = g) ∨ (v.leases[j].live = true ∧ v.leases[j].kind = k ∧ v.leases[j].group = g) := by
  by_cases hj : j = n
  · subst hj
    rw [create_live, (create_steady_self v sc fault ns r j).kind, (create_steady_self v sc fault ns r j).group, hn]
    simp
  · have hsame := create_steady v sc fault ns r hj
    rw [hsame.live, hsame.kind, hsame.group]
    simp [hj]

theorem grouped_create {v : Lsv} (h : v.Grouped) (sc : Option Scope) (fault : Bool) (ns : NewSlot) {r : Lease} {n : LeaseNo}
    (hn : v.leases[n].live = false) (talker : r.kind = .talk → v.groups[r.group].talker = none)
    (room : r.kind = .listen → v.groups[r.group].listeners.length < 16) : (v.create sc fault ns r n).1.Grouped := by
  have hnew (g : GroupNo) : n ∉ v.groups[g].listeners := fun hmem => by
    rw [((h.lists g n).mp hmem).1] at hn
    cases hn
  refine ⟨fun g => ?_, fun g j => ?_, fun g => ?_, fun g => ?_, fun g j => ?_⟩
  · rw [create_listeners]
    split
    · exact List.nodup_append.mpr ⟨h.once g, List.nodup_singleton n, fun a ha b hb hab =>
        hnew g (List.mem_singleton.mp hb ▸ hab ▸ ha)⟩
    · exact h.once g
  · rw [create_role v sc fault ns r hn, create_listeners, ← h.lists]
    split
    · next hx =>
      obtain ⟨hk, rfl⟩ := hx
      simp [hk, or_comm]
    · next hx =>
      refine ⟨.inr, fun hy => hy.resolve_left ?_⟩
      rintro ⟨-, hk, hg⟩
      exact hx ⟨hk, hg.symm⟩
  · rw [create_listeners]
    split
    · next hx =>
      obtain ⟨hk, rfl⟩ := hx
      rw [List.length_append]
      exact room hk
    · exact h.short g
  · rw [create_cap]
    exact h.cap g
  · rw [create_role v sc fault ns r hn, create_talker, ← h.talker]
    split
    · next hx =>
      obtain ⟨hk, rfl⟩ := hx
      rw [talker hk]
      simp [hk, eq_comm]
    · next hx =>
      refine ⟨.inr, fun hy => hy.resolve_left ?_⟩
      rintro ⟨-, hk, hg⟩
      exact hx ⟨hk, hg.symm⟩

theorem mapped_create {v : Lsv} (h : Tied v) (sc : Option Scope) (fault : Bool) (ns : NewSlot) {r : Lease} {n : LeaseNo}
    (hn : v.leases[n].live = false) (empty : v.entry r.port r.channel = none) : (v.create sc fault ns r n).1.Mapped := by
  have hself := create_steady_self v sc fault ns r n
  refine ⟨fun j hj => ?_, fun p c j he => ?_, fun j hf => ?_⟩
  · rw [create_entry]
    by_cases hjn : j = n
    · subst hjn
      rw [hself.port, hself.channel, if_pos ⟨rfl, rfl⟩]
    · have hsame := create_steady v sc fault ns r hjn
      rw [hsame.live] at hj
      rw [hsame.port, hsame.channel, if_neg]
      · exact h.mapped.bound j hj
      · rintro ⟨hp, hc⟩
        have hplace := h.mapped.bound j hj
        rw [hp, hc, empty] at hplace
        cases hplace
  · rw [create_entry] at he
    split at he
    · next hpc =>
      obtain ⟨rfl, rfl⟩ := hpc
      obtain rfl := Option.some.inj he
      exact ⟨create_live .., hself.port, hself.channel⟩
    · obtain ⟨hj, hp, hc⟩ := h.mapped.names p c j he
      have hjn : j ≠ n := by
        rintro rfl
        rw [hj] at hn
        cases hn
      have hsame := create_steady v sc fault ns r hjn
      rw [hsame.live, hsame.port, hsame.channel]
      exact ⟨hj, hp, hc⟩
  · have hjn : j ≠ n := by
      rintro rfl
      exact not_free_of_live (create_live v sc fault ns r j) hf
    have hsame := create_lease_untouched v sc fault ns r (j := j) (fun hmem => ?_) hjn
    · rw [hsame] at hf ⊢
      exact h.mapped.free j hf
    · refine not_free_of_live ?_ hf
      rw [(create_steady v sc fault ns r hjn).live]
      exact (Grouped.mem_arrivalList h.grouped hmem).1

theorem Tied.create {v : Lsv} (h : Tied v) (sc : Option Scope) (fault : Bool) (ns : NewSlot) {r : Lease} {n : LeaseNo}
    (hn : v.leases[n].live = false) (empty : v.entry r.port r.channel = none)
    (talker : r.kind = .talk → v.groups[r.group].talker = none)
    (room : r.kind = .listen → v.groups[r.group].listeners.length < 16) : Tied (v.create sc fault ns r n).1 :=
  ⟨grouped_create h.grouped sc fault ns hn talker room, mapped_create h sc fault ns hn empty⟩

/-! ### A lease that makes room for a new one (R58, R63) -/

/-- What a creation needs still holds after the retirement of another lease. -/
theorem opens_after_retire {ports : Vector Port 4} {v : Lsv} (h : v.Grouped) (sc : Option Scope) (cause : RetireCause)
    (keep : Bool) {r : Lease} {n l : LeaseNo} (opens : Opens ports v r n) (hl : v.leases[l].live = true) :
    Opens ports (v.retire sc cause keep l).lsv r n := by
  have hnl : n ≠ l := by
    rintro rfl
    exact not_free_of_live hl opens.free
  have hn : (v.retire sc cause keep l).lsv.leases[n] = v.leases[n] :=
    retire_lease_untouched v sc cause keep hnl fun hmem =>
      not_free_of_live (Grouped.mem_departureList h hmem).1 opens.free
  refine ⟨by rw [hn]; exact opens.free, ?_, opens.bearer, opens.served, opens.quiet⟩
  rw [retire_entry]
  split
  · rfl
  · exact opens.empty

/-- The retirement of a talker leaves its group without one. -/
theorem retire_no_talker (v : Lsv) (sc : Option Scope) (cause : RetireCause) (keep : Bool) {l : LeaseNo} {g : GroupNo}
    (hk : v.leases[l].kind = .talk) (hg : v.leases[l].group = g) :
    (v.retire sc cause keep l).lsv.groups[g].talker = none := by
  subst hg
  rw [retire_group_self, hk]
  rfl

/-- The retirement of a listener makes room for another (R63). -/
theorem retire_room {v : Lsv} (h : v.Grouped) (sc : Option Scope) (cause : RetireCause) (keep : Bool) {l : LeaseNo}
    {g : GroupNo} (hmem : l ∈ v.groups[g].listeners) :
    (v.retire sc cause keep l).lsv.groups[g].listeners.length < 16 := by
  obtain ⟨-, hk, rfl⟩ := (h.lists g l).mp hmem
  have hshort := h.short v.leases[l].group
  have hpos := List.length_pos_of_mem hmem
  rw [retire_group_self, hk]
  simp only [leftGroup, List.length_erase_of_mem hmem]
  omega

end Sys2Proof.Spec
end

section
/-! PROOF. Every change of the tables keeps the groups and the channel map exact: O54 and O55. -/

namespace Sys2Proof.Spec

open Sys2Proof.Machine

/-! ### Changes that leave records, groups and channel map -/

theorem takeSlot_floors (v : Lsv) (sl : SlotNo) (l : LeaseNo) : (v.takeSlot sl l).floors = v.floors := by
  unfold Lsv.takeSlot
  split <;> rfl

theorem reserveSlot_frame (v : Lsv) (sl : SlotNo) :
    (v.reserveSlot sl).leases = v.leases ∧ (v.reserveSlot sl).groups = v.groups ∧
      (v.reserveSlot sl).chanMap = v.chanMap ∧ (v.reserveSlot sl).attention = v.attention ∧
        (v.reserveSlot sl).tap = v.tap := by
  unfold Lsv.reserveSlot
  split <;> exact ⟨rfl, rfl, rfl, rfl, rfl⟩

theorem releaseSlot_frame (v : Lsv) (sl : SlotNo) :
    (v.releaseSlot sl).leases = v.leases ∧ (v.releaseSlot sl).groups = v.groups ∧
      (v.releaseSlot sl).chanMap = v.chanMap ∧ (v.releaseSlot sl).attention = v.attention ∧
        (v.releaseSlot sl).tap = v.tap := by
  unfold Lsv.releaseSlot
  split
  · exact ⟨Lsv.toPool_leases v sl, Lsv.toPool_groups v sl, Lsv.toPool_chanMap v sl, Lsv.toPool_attention v sl,
      Lsv.toPool_tap v sl⟩
  all_goals exact ⟨rfl, rfl, rfl, rfl, rfl⟩

/-! ### A move (R42) -/

theorem moveLease_leases (v : Lsv) (l : LeaseNo) (sl : SlotNo) :
    (v.moveLease l sl).leases = upd v.leases l { v.leases[l] with slot := some sl } := by
  simp [Lsv.moveLease]

theorem moveLease_groups (v : Lsv) (l : LeaseNo) (sl : SlotNo) : (v.moveLease l sl).groups = v.groups := by
  simp [Lsv.moveLease]

theorem moveLease_chanMap (v : Lsv) (l : LeaseNo) (sl : SlotNo) : (v.moveLease l sl).chanMap = v.chanMap := by
  simp [Lsv.moveLease]

theorem moveLease_attention (v : Lsv) (l : LeaseNo) (sl : SlotNo) : (v.moveLease l sl).attention = v.attention := by
  simp [Lsv.moveLease]

theorem moveLease_tap (v : Lsv) (l : LeaseNo) (sl : SlotNo) : (v.moveLease l sl).tap = v.tap := by
  simp [Lsv.moveLease]

/-! ### The initial tables -/

theorem initial_lease (l : LeaseNo) : Lsv.initial.leases[l] = Lease.cleared := Vector.getElem_replicate l.isLt

theorem initial_entry (p : PortNo) (c : ChanNo) : Lsv.initial.entry p c = none := by
  simp [Lsv.entry, Lsv.initial]

theorem initial_group (g : GroupNo) : Lsv.initial.groups[g] = Group.initial g := tab_get Group.initial g

theorem initial_dead {l : LeaseNo} (h : Lsv.initial.leases[l].live = true) : False := by
  rw [initial_lease] at h
  cases h

theorem Tied.initial : Tied Lsv.initial := by
  refine ⟨⟨fun g => ?_, fun g l => ?_, fun g => ?_, fun g => ?_, fun g l => ?_⟩,
    ⟨fun l hl => (initial_dead hl).elim, fun p c l he => ?_, fun l _ => initial_lease l⟩⟩
  · rw [initial_group]; exact List.nodup_nil
  · rw [initial_group]; exact iff_of_false List.not_mem_nil fun hl => initial_dead hl.1
  · rw [initial_group]; exact Nat.zero_le 16
  · rw [initial_group]; exact (by decide : 8 ≤ 16)
  · rw [initial_group]; exact iff_of_false nofun fun hl => initial_dead hl.1
  · rw [initial_entry] at he; cases he

/-! ### Every change -/

/-- A preempted talker leaves tables on which the new one can be created (R58). -/
theorem Tied.preempted {ports : Vector Port 4} {v : Lsv} (h : Tied v) (sc : Option Scope) {r : Lease} {n t : LeaseNo}
    (ns : NewSlot) (opens : Opens ports v r n) (talk : r.kind = .talk) (talker : v.groups[r.group].talker = some t) :
    Tied ((v.retire sc .preempted true t).lsv.create sc ports[r.port].lpi.faulty ns r n).1 := by
  obtain ⟨hlive, hkind, hgroup⟩ := (h.grouped.talker r.group t).mp talker
  have hopens := opens_after_retire h.grouped sc .preempted true opens hlive
  exact (h.retire sc .preempted true hlive).create sc _ ns (dead_of_free hopens.free) hopens.empty
    (fun _ => retire_no_talker v sc .preempted true hkind hgroup) fun hk => nomatch talk.symm.trans hk

/-- A displaced listener leaves room for the new one (R63). -/
theorem Tied.displaced {ports : Vector Port 4} {v : Lsv} (h : Tied v) (sc : Option Scope) {r : Lease} {n b : LeaseNo}
    (ns : NewSlot) (opens : Opens ports v r n) (listen : r.kind = .listen) (victim : b ∈ v.groups[r.group].listeners) :
    Tied ((v.retire sc .preempted false b).lsv.create sc ports[r.port].lpi.faulty ns r n).1 := by
  obtain ⟨hlive, -, -⟩ := (h.grouped.lists r.group b).mp victim
  have hopens := opens_after_retire h.grouped sc .preempted false opens hlive
  exact (h.retire sc .preempted false hlive).create sc _ ns (dead_of_free hopens.free) hopens.empty
    (fun hk => nomatch listen.symm.trans hk) fun _ => retire_room h.grouped sc .preempted false victim

theorem Tied.change {ports : Vector Port 4} {v w : Lsv} (h : Tied v) (hc : TableChange ports v w) : Tied w := by
  induction hc with
  | same v => exact h
  | trans _ _ ih ih' => exact ih' (ih h)
  | record bound alike state notices =>
    refine h.setLease alike.sameLive fun hf => (not_free_of_live (h.bound_live bound) ?_).elim
    rw [← state]
    exact hf
  | retired sc cause bound => exact h.retire sc cause false (h.bound_live bound)
  | purged dead =>
    exact Tied.ofSame (h.setLease (SameLive.ofDead dead rfl) fun _ => .inr rfl) rfl rfl rfl
  | @served v l rest head =>
    refine Tied.ofSame (h.setLease (SameLive.noticesTaken v.leases[l]) fun hf => ?_) rfl rfl rfl
    unfold Lease.noticesTaken at hf ⊢
    split at hf
    · next hr => rw [if_pos hr]; exact .inr rfl
    · next hr =>
      rw [if_neg hr]
      rw [h.mapped.free l hf]
      exact .inl rfl
  | created sc opens admits =>
    exact h.create sc _ _ (dead_of_free opens.free) opens.empty admits.talker fun hk =>
      (admits.room hk).trans_le (h.grouped.cap _)
  | preempted sc opens talk talker slot => exact h.preempted sc _ opens talk talker
  | displaced sc opens listen victim => exact h.displaced sc _ opens listen victim
  | @moved v l sl live kind takeable =>
    have hlease : SameLive v.leases[l] { v.leases[l] with slot := some sl } :=
      ⟨rfl, fun _ => rfl, fun _ => rfl, fun _ => rfl, fun _ => rfl⟩
    refine Tied.ofSame (h.setLease hlease fun hf => ?_) (moveLease_leases v l sl) (moveLease_groups v l sl)
      (moveLease_chanMap v l sl)
    exact (not_free_of_live live hf).elim
  | settings floors small => exact h.ofSame rfl rfl rfl
  | tap target source => exact h.ofSame rfl rfl rfl
  | @group v g x talker listeners cap =>
    have hrole {α : Type} (f : Group → α) (hx : f x = f v.groups[g]) (j : GroupNo) :
        f (v.setGroup g x).groups[j] = f v.groups[j] := upd_get_apply f hx j
    refine ⟨grouped_of_sameLive h.grouped (fun l => .refl _) (hrole Group.listeners listeners) (hrole Group.talker talker)
      fun j => ?_, mapped_of_sameLive h.mapped (fun l => .refl _) (fun _ _ => rfl) fun l _ => .inl rfl⟩
    rw [Lsv.setGroup_groups, upd_get]
    split
    · exact cap
    · exact h.grouped.cap j
  | @reserved v sl =>
    obtain ⟨hl, hg, hm, -, -⟩ := reserveSlot_frame v sl
    exact h.ofSame hl hg hm
  | @released v sl free =>
    obtain ⟨hl, hg, hm, -, -⟩ := releaseSlot_frame v sl
    exact h.ofSame hl hg hm
  | phase => exact h.ofSame rfl rfl rfl

/-- The change of a step keeps the groups and the channel map exact. -/
theorem Tied.partChange {v w : Lsv} {ports ports' : Vector Port 4} (h : Tied v) (hc : PartChange v ports w ports') :
    Tied w := by
  cases hc with
  | tables change lines => exact h.change change
  | @conditioned p _ others admin format faulty =>
    refine h.ofLeases (changeAll_groups ..) (by rw [Lsv.conditionPort, changeAll_frame])
      (fun l => (conditionPort_alike v p l).sameLive) fun l hf => ?_
    rw [conditionPort_lease] at hf ⊢
    split at hf
    · rw [afterTurn, noticed_state] at hf
      cases hf
    · next hl => rw [if_neg hl]; exact .inl rfl
  | @restored p _ others admin format faulty =>
    refine h.ofLeases (changeAll_groups ..) (by rw [Lsv.restorePort, changeAll_frame])
      (fun l => (restorePort_alike v p l).sameLive) fun l hf => ?_
    rw [restorePort_lease] at hf ⊢
    split at hf
    · rw [afterTurn, noticed_state] at hf
      obtain hst | hst := restoredState_cases v v.leases[l] <;> exact (nomatch hst.symm.trans hf)
    · next hl => rw [if_neg hl]; exact .inl rfl
  | configured others configures => exact h
  | initial => exact .initial

/-- Settles O54: the change of a step keeps the groups exact. -/
theorem groupsHoldTheirLeases : Obligations.GroupsHoldTheirLeases :=
  fun _ _ hg hm hstep => (Tied.partChange ⟨hg, hm⟩ (step_changes hstep)).grouped

/-- Settles O55: the change of a step keeps the channel map exact. -/
theorem mapNamesLiveLeases : Obligations.MapNamesLiveLeases :=
  fun _ _ hg hm hstep => (Tied.partChange ⟨hg, hm⟩ (step_changes hstep)).mapped

end Sys2Proof.Spec
end

section
/-! PROOF. Leases are CONDITIONED with their ports and stay on bearer channels of open ports: O58 and O60. -/

namespace Sys2Proof.Spec

open Sys2Proof.Machine

/-- The line port of port `p`, as a function of the port's number. -/
def lineOf (ports : Vector Port 4) (p : PortNo) : Lpi := ports[p].lpi

/-! ### CONDITIONED exactly on a faulty port (R117) -/

/-- A live lease is CONDITIONED exactly while its port is faulty, on the tables alone. -/
def ConditionedOn (ports : Vector Port 4) (v : Lsv) : Prop :=
  ∀ l : LeaseNo, v.leases[l].live → (v.leases[l].state = .conditioned ↔ (lineOf ports v.leases[l].port).faulty)

/-- What a lease has to be for its record to be CONDITIONED as its port is. -/
def MatchesPort (ports : Vector Port 4) (r : Lease) : Prop :=
  r.live → (r.state = .conditioned ↔ (lineOf ports r.port).faulty)

theorem Steady.matchesPort {ports : Vector Port 4} {r r' : Lease} (h : Steady r r') (hr : MatchesPort ports r) :
    MatchesPort ports r' := by
  intro hl
  rw [h.live] at hl
  rw [h.conditioned, h.port]
  exact hr hl

theorem matchesPort_dead {ports : Vector Port 4} {r : Lease} (h : r.live = false) : MatchesPort ports r := fun hl => by
  rw [h] at hl
  cases hl

theorem matchesPort_setLease {ports : Vector Port 4} {v : Lsv} (h : ConditionedOn ports v) {l : LeaseNo} {r : Lease}
    (hr : MatchesPort ports r) (j : LeaseNo) : MatchesPort ports (v.setLease l r).leases[j] := by
  rw [Lsv.setLease_leases, upd_get]
  split
  · exact hr
  · exact h j

theorem conditionedOn_retire {ports : Vector Port 4} {v : Lsv} (h : ConditionedOn ports v) (sc : Option Scope)
    (cause : RetireCause) (keep : Bool) (l : LeaseNo) : ConditionedOn ports (v.retire sc cause keep l).lsv := by
  intro j
  by_cases hj : j = l
  · subst hj
    exact matchesPort_dead (retire_dead v sc cause keep j)
  · exact (retire_steady v sc cause keep hj).matchesPort (h j)

theorem conditionedOn_create {ports : Vector Port 4} {v : Lsv} (h : ConditionedOn ports v) (sc : Option Scope) (ns : NewSlot)
    (r : Lease) (n : LeaseNo) : ConditionedOn ports (v.create sc (lineOf ports r.port).faulty ns r n).1 := by
  intro j
  by_cases hj : j = n
  · subst hj
    exact (create_steady_self v sc _ ns r j).matchesPort fun _ => newState_conditioned v _ r.kind r.group
  · exact (create_steady v sc _ ns r hj).matchesPort (h j)

theorem conditionedOn_change {ports : Vector Port 4} {v w : Lsv} (h : ConditionedOn ports v) (hc : TableChange ports v w) :
    ConditionedOn ports w := by
  have same {v w : Lsv} (h : ConditionedOn ports v) (hl : w.leases = v.leases) : ConditionedOn ports w := by
    unfold ConditionedOn
    rw [hl]
    exact h
  induction hc with
  | same v => exact h
  | trans _ _ ih ih' => exact ih' (ih h)
  | @record v l r bound alike state notices =>
    exact matchesPort_setLease h (Steady.matchesPort ⟨alike, by rw [state]⟩ (h l))
  | retired sc cause bound => exact conditionedOn_retire h sc cause false _
  | purged dead => exact matchesPort_setLease h (matchesPort_dead rfl)
  | @served v l rest head =>
    refine matchesPort_setLease h ?_
    unfold Lease.noticesTaken
    split
    · exact matchesPort_dead rfl
    · exact h l
  | created sc opens admits => exact conditionedOn_create h sc _ _ _
  | preempted sc opens talk talker slot =>
    exact conditionedOn_create (conditionedOn_retire h sc .preempted true _) sc _ _ _
  | displaced sc opens listen victim =>
    exact conditionedOn_create (conditionedOn_retire h sc .preempted false _) sc _ _ _
  | @moved v l sl live kind takeable =>
    have hset := matchesPort_setLease h (l := l) (r := { v.leases[l] with slot := some sl }) (h l)
    exact same hset (moveLease_leases v l sl)
  | settings floors small => exact h
  | tap target source => exact h
  | group talker listeners cap => exact h
  | @reserved v sl => exact same h (reserveSlot_frame v sl).1
  | @released v sl free => exact same h (releaseSlot_frame v sl).1
  | phase => exact h

/-- Line ports whose leases are CONDITIONED alike. -/
theorem conditionedOn_lines {ports ports' : Vector Port 4} {v : Lsv} (h : ConditionedOn ports v)
    (lines : ∀ l : LeaseNo, v.leases[l].live = true →
      (lineOf ports' v.leases[l].port).faulty = (lineOf ports v.leases[l].port).faulty) : ConditionedOn ports' v := by
  intro l hl
  rw [lines l hl]
  exact h l hl

theorem conditionedOn_conditionPort {ports ports' : Vector Port 4} {v : Lsv} (h : ConditionedOn ports v) {p : PortNo}
    (others : ∀ q, q ≠ p → SameLine (lineOf ports q) (lineOf ports' q)) (faulty : (lineOf ports' p).faulty = true) :
    ConditionedOn ports' (v.conditionPort p) := by
  intro j hj
  have hsame := conditionPort_alike v p j
  rw [hsame.live] at hj
  rw [hsame.port, conditionPort_lease]
  split
  · next hmem =>
    rw [afterTurn, noticed_state, (mem_liveOnPort.mp hmem).2, faulty]
    exact iff_of_true rfl rfl
  · next hmem =>
    have hport : v.leases[j].port ≠ p := fun hp => hmem (mem_liveOnPort.mpr ⟨hj, hp⟩)
    rw [(others _ hport).faulty]
    exact h j hj

theorem conditionedOn_restorePort {ports ports' : Vector Port 4} {v : Lsv} (h : ConditionedOn ports v) {p : PortNo}
    (others : ∀ q, q ≠ p → SameLine (lineOf ports q) (lineOf ports' q)) (faulty : (lineOf ports' p).faulty = false) :
    ConditionedOn ports' (v.restorePort p) := by
  intro j hj
  have hsame := restorePort_alike v p j
  rw [hsame.live] at hj
  rw [hsame.port, restorePort_lease]
  split
  · next hmem =>
    rw [afterTurn, noticed_state, (mem_liveOnPort.mp hmem).2, faulty]
    refine iff_of_false (fun hst => ?_) Bool.false_ne_true
    obtain hw | ha := restoredState_cases v v.leases[j]
    · exact (nomatch hw.symm.trans hst)
    · exact (nomatch ha.symm.trans hst)
  · next hmem =>
    have hport : v.leases[j].port ≠ p := fun hp => hmem (mem_liveOnPort.mpr ⟨hj, hp⟩)
    rw [(others _ hport).faulty]
    exact h j hj

theorem conditionedOn_partChange {v w : Lsv} {ports ports' : Vector Port 4} (h : ConditionedOn ports v)
    (hc : PartChange v ports w ports') : ConditionedOn ports' w := by
  cases hc with
  | tables change lines => exact conditionedOn_lines (conditionedOn_change h change) fun l _ => (lines _).faulty
  | conditioned others admin format faulty => exact conditionedOn_conditionPort h others faulty
  | restored others admin format faulty => exact conditionedOn_restorePort h others faulty
  | @configured p _ others configures =>
    refine conditionedOn_lines h fun l hl => ?_
    by_cases hp : v.leases[l].port = p
    · rw [hp]
      exact configures.faulty.resolve_right fun hvacant => hvacant l hl hp
    · exact (others _ hp).faulty
  | initial => exact fun l hl => (initial_dead hl).elim

/-- Settles O58: each change keeps the leases of a port CONDITIONED with it. -/
theorem conditionedWithPort : Obligations.ConditionedWithPort :=
  fun _ _ h hstep => conditionedOn_partChange h (step_changes hstep)

/-! ### Bearer channels of ports that are not CLOSED (R13) -/

/-- Live leases stand on bearer channels of ports that are not CLOSED, on the tables alone. -/
def PlacedOn (ports : Vector Port 4) (v : Lsv) : Prop :=
  ∀ l : LeaseNo, v.leases[l].live →
    (lineOf ports v.leases[l].port).admin ≠ .closed ∧ (lineOf ports v.leases[l].port).format.bearer v.leases[l].channel

/-- A live lease after a change was live before, on the same channel, or stands where a lease can be created. -/
theorem placedOn_of {ports : Vector Port 4} {v w : Lsv} (h : PlacedOn ports v)
    (leases : ∀ l : LeaseNo, w.leases[l].live = true →
      (v.leases[l].live = true ∧ w.leases[l].port = v.leases[l].port ∧ w.leases[l].channel = v.leases[l].channel) ∨
        ((lineOf ports w.leases[l].port).admin ≠ .closed ∧ (lineOf ports w.leases[l].port).format.bearer w.leases[l].channel)) :
    PlacedOn ports w := by
  intro l hl
  obtain ⟨hlive, hport, hchannel⟩ | hplaced := leases l hl
  · rw [hport, hchannel]
    exact h l hlive
  · exact hplaced

theorem placedOn_retire {ports : Vector Port 4} {v : Lsv} (h : PlacedOn ports v) (sc : Option Scope) (cause : RetireCause)
    (keep : Bool) (l : LeaseNo) : PlacedOn ports (v.retire sc cause keep l).lsv :=
  placedOn_of h fun j hj => by
    obtain ⟨hjl, hlive⟩ := (retire_live_iff v sc cause keep l j).mp hj
    have hsame := retire_steady v sc cause keep hjl
    exact .inl ⟨hlive, hsame.port, hsame.channel⟩

theorem placedOn_create {ports : Vector Port 4} {v : Lsv} (h : PlacedOn ports v) (sc : Option Scope) (fault : Bool)
    (ns : NewSlot) {r : Lease} (n : LeaseNo)
    (place : (lineOf ports r.port).admin ≠ .closed ∧ (lineOf ports r.port).format.bearer r.channel = true) :
    PlacedOn ports (v.create sc fault ns r n).1 :=
  placedOn_of h fun j hj => by
    by_cases hjn : j = n
    · subst hjn
      have hself := create_steady_self v sc fault ns r j
      rw [hself.port, hself.channel]
      exact .inr place
    · have hsame := create_steady v sc fault ns r hjn
      exact .inl ⟨hsame.live ▸ hj, hsame.port, hsame.channel⟩

theorem placedOn_setLease {ports : Vector Port 4} {v : Lsv} (h : PlacedOn ports v) {l : LeaseNo} {r : Lease}
    (hr : SameLive v.leases[l] r) : PlacedOn ports (v.setLease l r) :=
  placedOn_of h fun j hj => by
    have hsame := hr.setLease j
    rw [hsame.live] at hj
    exact .inl ⟨hj, hsame.port hj, hsame.channel hj⟩

/-- A creation is on a bearer channel of a port that is not CLOSED, where a CLOSED port holds no message (R24, R85, R98). -/
theorem Opens.placed {ports : Vector Port 4} {v : Lsv} {r : Lease} {n : LeaseNo} (h : Opens ports v r n)
    (silent : ∀ p : PortNo, (lineOf ports p).admin = .closed → ports[p].cch.bufA = none) :
    (lineOf ports r.port).admin ≠ .closed ∧ (lineOf ports r.port).format.bearer r.channel = true := by
  refine ⟨fun hclosed => ?_, h.bearer⟩
  have hbuf := h.served hclosed
  rw [silent _ hclosed] at hbuf
  cases hbuf

theorem placedOn_change {ports : Vector Port 4} {v w : Lsv}
    (silent : ∀ p : PortNo, (lineOf ports p).admin = .closed → ports[p].cch.bufA = none) (h : PlacedOn ports v)
    (hc : TableChange ports v w) : PlacedOn ports w := by
  have same {v w : Lsv} (h : PlacedOn ports v) (hl : w.leases = v.leases) : PlacedOn ports w := by
    unfold PlacedOn
    rw [hl]
    exact h
  induction hc with
  | same v => exact h
  | trans _ _ ih ih' => exact ih' (ih h)
  | record bound alike state notices => exact placedOn_setLease h alike.sameLive
  | retired sc cause bound => exact placedOn_retire h sc cause false _
  | purged dead => exact same (placedOn_setLease h (SameLive.ofDead dead rfl)) rfl
  | served head => exact same (placedOn_setLease h (SameLive.noticesTaken _)) rfl
  | created sc opens admits => exact placedOn_create h sc _ _ _ (opens.placed silent)
  | preempted sc opens talk talker slot =>
    exact placedOn_create (placedOn_retire h sc .preempted true _) sc _ _ _ (opens.placed silent)
  | displaced sc opens listen victim =>
    exact placedOn_create (placedOn_retire h sc .preempted false _) sc _ _ _ (opens.placed silent)
  | @moved v l sl live kind takeable =>
    have hlease : SameLive v.leases[l] { v.leases[l] with slot := some sl } :=
      ⟨rfl, fun _ => rfl, fun _ => rfl, fun _ => rfl, fun _ => rfl⟩
    exact same (placedOn_setLease h hlease) (moveLease_leases v l sl)
  | settings floors small => exact h
  | tap target source => exact h
  | group talker listeners cap => exact h
  | @reserved v sl => exact same h (reserveSlot_frame v sl).1
  | @released v sl free => exact same h (releaseSlot_frame v sl).1
  | phase => exact h

/-- Line ports that are open with the same format wherever a lease stands. -/
theorem placedOn_lines {ports ports' : Vector Port 4} {v : Lsv} (h : PlacedOn ports v)
    (lines : ∀ l : LeaseNo, v.leases[l].live = true → (lineOf ports v.leases[l].port).admin ≠ .closed →
      (lineOf ports' v.leases[l].port).admin ≠ .closed ∧
        (lineOf ports' v.leases[l].port).format = (lineOf ports v.leases[l].port).format) : PlacedOn ports' v := by
  intro l hl
  obtain ⟨hopen, hbearer⟩ := h l hl
  obtain ⟨hopen', hformat⟩ := lines l hl hopen
  rw [hformat]
  exact ⟨hopen', hbearer⟩

/-- Ports that keep admin state and format, whatever their condition. -/
theorem placedOn_sameAdmin {ports ports' : Vector Port 4} {v : Lsv} (h : PlacedOn ports v) {p : PortNo}
    (others : ∀ q, q ≠ p → SameLine (lineOf ports q) (lineOf ports' q)) (admin : (lineOf ports' p).admin = (lineOf ports p).admin)
    (format : (lineOf ports' p).format = (lineOf ports p).format) : PlacedOn ports' v :=
  placedOn_lines h fun l _ hopen => by
    by_cases hp : v.leases[l].port = p
    · rw [hp] at hopen ⊢
      exact ⟨admin ▸ hopen, format⟩
    · exact ⟨(others _ hp).admin ▸ hopen, (others _ hp).format⟩

theorem placedOn_alike {ports : Vector Port 4} {v w : Lsv} (h : PlacedOn ports v)
    (alike : ∀ l : LeaseNo, Alike v.leases[l] w.leases[l]) : PlacedOn ports w :=
  placedOn_of h fun l hl => .inl ⟨(alike l).live ▸ hl, (alike l).port, (alike l).channel⟩

theorem placedOn_partChange {v w : Lsv} {ports ports' : Vector Port 4}
    (silent : ∀ p : PortNo, (lineOf ports p).admin = .closed → ports[p].cch.bufA = none) (h : PlacedOn ports v)
    (hc : PartChange v ports w ports') : PlacedOn ports' w := by
  cases hc with
  | tables change lines =>
    exact placedOn_lines (placedOn_change silent h change) fun l _ hopen =>
      ⟨(lines _).admin ▸ hopen, (lines _).format⟩
  | conditioned others admin format faulty =>
    exact placedOn_alike (placedOn_sameAdmin h others admin format) (conditionPort_alike v _)
  | restored others admin format faulty =>
    exact placedOn_alike (placedOn_sameAdmin h others admin format) (restorePort_alike v _)
  | @configured p _ others configures =>
    refine placedOn_lines h fun l hl hopen => ?_
    by_cases hp : v.leases[l].port = p
    · rw [hp] at hopen ⊢
      exact ⟨fun hclosed => configures.admin hopen hclosed l hl hp, configures.format hopen⟩
    · exact ⟨(others _ hp).admin ▸ hopen, (others _ hp).format⟩
  | initial => exact fun l hl => (initial_dead hl).elim

/-- A CLOSED port that holds its silence has no message in buffer A (R85). -/
theorem closed_bufA {s : State} (h : s.Shut) (p : PortNo) (hclosed : s.ports[p].lpi.admin = .closed) :
    s.ports[p].cch.bufA = none := by
  have hanswers : s.ports[p].lpi.answers = false := by rw [Lpi.answers, hclosed]; rfl
  exact (h.silent p hanswers).1.bufA

/-- Settles O60: each change keeps the leases on bearer channels, and a CLOSED port holds no message that could create one. -/
theorem leasesStayOnBearerChannels : Obligations.LeasesStayOnBearerChannels :=
  fun _ _ hshut h hstep => placedOn_partChange (closed_bufA hshut) h (step_changes hstep)

end Sys2Proof.Spec
end

section
/-! PROOF. The attention list stays exact, and listeners follow their talker: O57 and O56. -/

namespace Sys2Proof.Spec

open Sys2Proof.Machine

/-! ### The attention list (R158) -/

/-- The attention list holds each lease once, and exactly those with notices. -/
structure Listed (v : Lsv) : Prop where
  once : v.attention.Nodup
  exact : ∀ l : LeaseNo, l ∈ v.attention ↔ v.leases[l].notices ≠ 0

theorem Listed.ofSame {v w : Lsv} (h : Listed v) (ha : w.attention = v.attention)
    (hl : ∀ l : LeaseNo, w.leases[l].notices = v.leases[l].notices) : Listed w :=
  ⟨by rw [ha]; exact h.once, fun l => by rw [ha, hl]; exact h.exact l⟩

/-- Replacing a record by one with the same notices. -/
theorem Listed.setLease {v : Lsv} (h : Listed v) {l : LeaseNo} {r : Lease} (hr : r.notices = v.leases[l].notices) :
    Listed (v.setLease l r) :=
  h.ofSame rfl (upd_get_apply Lease.notices hr)

/-- A notice brings the lease onto the list when its set becomes non-empty. -/
theorem Listed.addNotice {v : Lsv} (h : Listed v) (l : LeaseNo) (k : Notice) : Listed (v.addNotice l k) := by
  have hjoin : (v.addNotice l k).attention =
      if v.collects v.leases[l] k = true ∧ v.leases[l].notices = 0 then v.attention ++ [l] else v.attention :=
    Lsv.addNotice_attention v l k
  refine ⟨?_, fun j => ?_⟩
  · rw [hjoin]
    split
    · next hc =>
      refine List.nodup_append.mpr ⟨h.once, List.nodup_singleton l, fun a ha b hb hab => ?_⟩
      rw [List.mem_singleton.mp hb] at hab
      subst hab
      exact (h.exact a).mp ha hc.2
    · exact h.once
  · rw [addNotice_lease_eq, hjoin]
    by_cases hj : j = l
    · subst hj
      rw [if_pos rfl, noticed_notices_ne_zero, ← h.exact]
      split
      · next hc => exact iff_of_true (List.mem_append_right _ List.mem_cons_self) (.inr hc.1)
      · next hc =>
        refine ⟨.inl, fun hx => hx.elim id fun hcollects => (h.exact j).mpr fun hzero => hc ⟨hcollects, hzero⟩⟩
    · rw [if_neg hj, ← h.exact]
      split
      · simp [hj]
      · rfl

theorem Listed.changeAll {v : Lsv} (h : Listed v) (f : Lease → LeaseState) (k : Notice) (ls : List LeaseNo) :
    Listed (ls.foldl (changeLease f k) v) := by
  induction ls generalizing v with
  | nil => exact h
  | cons l ls ih =>
    have hset : Listed (v.setLease l { v.leases[l] with state := f v.leases[l] }) := h.setLease rfl
    exact ih (hset.addNotice l k)

/-- A record's end keeps its notices (R22). -/
theorem ended_notices (r : Lease) (cause : RetireCause) : (r.ended cause).notices = r.notices := by
  unfold Lease.ended
  split
  · next h => exact h.symm
  · rfl

theorem Listed.endRecord {v : Lsv} (h : Listed v) (cause : RetireCause) (l : LeaseNo) : Listed (v.endRecord cause l) := by
  unfold Lsv.endRecord
  cases cause.notice with
  | none => exact h.setLease (ended_notices _ cause)
  | some k => exact (h.addNotice l k).setLease (ended_notices _ cause)

theorem Listed.retire {v : Lsv} (h : Listed v) (sc : Option Scope) (cause : RetireCause) (keep : Bool) (l : LeaseNo) :
    Listed (v.retire sc cause keep l).lsv := by
  have hvacated : Listed (vacated v keep l) := h.ofSame (vacated_attention v keep l) fun j => by rw [vacated_leases]
  have hdeparting : Listed (departing v keep l) := hvacated.changeAll _ _ _
  rw [retire_lsv]
  exact (hdeparting.ofSame (leaveTap_attention _ l) fun j => by rw [leaveTap_leases]).endRecord cause l

theorem Listed.create {v : Lsv} (h : Listed v) (sc : Option Scope) (fault : Bool) (ns : NewSlot) {r : Lease} {n : LeaseNo}
    (hn : v.leases[n].notices = 0) (hr : r.notices = 0) : Listed (v.create sc fault ns r n).1 := by
  have hseated : Listed (seated v fault ns r n) := by
    refine h.ofSame (seated_attention v fault ns r n) fun j => ?_
    rw [seated_leases]
    refine upd_get_apply Lease.notices ?_ j
    exact hr.trans hn.symm
  rw [create_fst]
  exact hseated.changeAll _ _ _

/-- A record that is emptied leaves the list. -/
theorem Listed.emptied {v w : Lsv} (h : Listed v) {l : LeaseNo} {r : Lease} (hr : r.notices = 0)
    (hw : w.attention = v.attention.erase l) (hl : w.leases = upd v.leases l r) : Listed w := by
  refine ⟨by rw [hw]; exact h.once.erase l, fun j => ?_⟩
  rw [hw, h.once.mem_erase_iff, hl, upd_get, h.exact]
  by_cases hj : l = j
  · subst hj
    rw [if_pos rfl]
    exact iff_of_false (fun hx => hx.1 rfl) fun hx => hx hr
  · rw [if_neg hj]
    exact and_iff_right (Ne.symm hj)

theorem noticesTaken_notices (r : Lease) : r.noticesTaken.notices = 0 := by
  unfold Lease.noticesTaken
  split <;> rfl

theorem Tied.free_notices {v : Lsv} (h : Tied v) {n : LeaseNo} (hn : v.leases[n].state = .free) :
    v.leases[n].notices = 0 := by
  rw [h.mapped.free n hn]
  rfl

theorem Listed.change {ports : Vector Port 4} {v w : Lsv} (ht : Tied v) (h : Listed v) (hc : TableChange ports v w) :
    Listed w := by
  induction hc with
  | same v => exact h
  | trans hfirst _ ih ih' => exact ih' (ht.change hfirst) (ih ht h)
  | record bound alike state notices => exact h.setLease notices
  | retired sc cause bound => exact h.retire sc cause false _
  | purged dead => exact h.emptied (r := Lease.cleared) rfl rfl rfl
  | @served v l rest head =>
    refine h.emptied (l := l) (noticesTaken_notices v.leases[l]) ?_ rfl
    show rest = v.attention.erase l
    rw [head, List.erase_cons_head]
  | created sc opens admits => exact h.create sc _ _ (ht.free_notices opens.free) opens.quiet
  | @preempted v sc r n t sl opens talk talker slot =>
    have hlive := ((ht.grouped.talker _ _).mp talker).1
    have hopens := opens_after_retire ht.grouped sc .preempted true opens hlive
    exact (h.retire sc .preempted true t).create sc _ _
      ((ht.retire sc .preempted true hlive).free_notices hopens.free) opens.quiet
  | @displaced v sc r n b opens listen victim =>
    have hlive := ((ht.grouped.lists _ _).mp victim).1
    have hopens := opens_after_retire ht.grouped sc .preempted false opens hlive
    exact (h.retire sc .preempted false b).create sc _ _
      ((ht.retire sc .preempted false hlive).free_notices hopens.free) opens.quiet
  | @moved v l sl live kind takeable =>
    refine h.ofSame (moveLease_attention v l sl) fun j => ?_
    rw [moveLease_leases]
    refine upd_get_apply Lease.notices ?_ j
    rfl
  | settings floors small => exact h.ofSame rfl fun _ => rfl
  | tap target source => exact h.ofSame rfl fun _ => rfl
  | group talker listeners cap => exact h.ofSame rfl fun _ => rfl
  | @reserved v sl =>
    obtain ⟨hl, -, -, ha, -⟩ := reserveSlot_frame v sl
    exact h.ofSame ha fun j => by rw [hl]
  | @released v sl free =>
    obtain ⟨hl, -, -, ha, -⟩ := releaseSlot_frame v sl
    exact h.ofSame ha fun j => by rw [hl]
  | phase => exact h.ofSame rfl fun _ => rfl

theorem Listed.initial : Listed Lsv.initial :=
  ⟨List.nodup_nil, fun l => by
    rw [initial_lease]
    exact iff_of_false List.not_mem_nil fun hx => hx rfl⟩

theorem Listed.partChange {v w : Lsv} {ports ports' : Vector Port 4} (ht : Tied v) (h : Listed v)
    (hc : PartChange v ports w ports') : Listed w := by
  cases hc with
  | tables change lines => exact h.change ht change
  | conditioned => exact h.changeAll _ _ _
  | restored => exact h.changeAll _ _ _
  | configured => exact h
  | initial => exact .initial

/-- Settles O57: each change keeps the attention list exact; a FREE record is cleared by the channel map's invariant. -/
theorem attentionListExact : Obligations.AttentionListExact := by
  intro s t hg hm ha hstep
  have hlisted : Listed t.lsv := Listed.partChange ⟨hg, hm⟩ ⟨ha.once, ha.exact⟩ (step_changes hstep)
  have htied : Tied t.lsv := Tied.partChange ⟨hg, hm⟩ (step_changes hstep)
  exact ⟨hlisted.once, hlisted.exact, fun l hl => htied.free_notices hl⟩

end Sys2Proof.Spec
end

section
/-! PROOF. Listeners follow the presence of a talker (R61): O56. -/

namespace Sys2Proof.Spec

open Sys2Proof.Machine

/-- What R61 says of one record, by the talker of its group. -/
structure FollowsTalker (talker : Option LeaseNo) (r : Lease) : Prop where
  active : r.kind = .listen → r.state = .active → talker.isSome
  waiting : r.state = .waiting → r.kind = .listen ∧ talker = none

/-- The talker of group `g`, as a function of the group's number. -/
def talkerOf (v : Lsv) (g : GroupNo) : Option LeaseNo := v.groups[g].talker

theorem follows_iff (v : Lsv) : v.Follows ↔ ∀ l : LeaseNo, FollowsTalker (talkerOf v v.leases[l].group) v.leases[l] :=
  ⟨fun h l => ⟨h.active l, h.waiting l⟩, fun h => ⟨fun l => (h l).active, fun l => (h l).waiting⟩⟩

/-- A record that is neither ACTIVE nor WAITING follows any talker. -/
theorem FollowsTalker.ofIdle {r : Lease} (ha : r.state ≠ .active) (hw : r.state ≠ .waiting) (o : Option LeaseNo) :
    FollowsTalker o r := ⟨fun _ h => absurd h ha, fun h => absurd h hw⟩

theorem FollowsTalker.ofDead {r : Lease} (h : r.live = false) (o : Option LeaseNo) : FollowsTalker o r := by
  refine .ofIdle (fun ha => ?_) (fun hw => ?_) o
  · rw [Lease.live, ha] at h
    cases h
  · rw [Lease.live, hw] at h
    cases h

/-- Only the kind and the state of a record have a part in it. -/
theorem FollowsTalker.congr {o : Option LeaseNo} {r r' : Lease} (h : FollowsTalker o r) (hk : r'.kind = r.kind)
    (hs : r'.state = r.state) : FollowsTalker o r' :=
  ⟨by rw [hk, hs]; exact h.active, by rw [hk, hs]; exact h.waiting⟩

/-- A lease that is no listener follows any talker, if it follows one. -/
theorem FollowsTalker.ofOther {o : Option LeaseNo} {r : Lease} (h : FollowsTalker o r) (hk : r.live = true → r.kind ≠ .listen)
    (o' : Option LeaseNo) : FollowsTalker o' r := by
  cases hl : r.live with
  | false => exact .ofDead hl o'
  | true => exact ⟨fun hk' => absurd hk' (hk hl), fun hw => absurd (h.waiting hw).1 (hk hl)⟩

/-- A listener that has become or stayed WAITING follows no talker. -/
theorem FollowsTalker.waited {r : Lease} (hk : r.kind = .listen) (k : Notice) (v : Lsv) : FollowsTalker none (afterTurn (turned .active .waiting) k v r) := by
  have hkind : (afterTurn (turned .active .waiting) k v r).kind = .listen := by rw [afterTurn, noticed_keeps]; exact hk
  refine ⟨fun _ hs => ?_, fun _ => ⟨hkind, rfl⟩⟩
  rw [afterTurn, noticed_state] at hs
  dsimp only [turned] at hs
  split at hs
  · cases hs
  · next hn => exact absurd hs hn

/-- A listener that has become or stayed ACTIVE follows a talker. -/
theorem FollowsTalker.activated (r : Lease) (k : Notice) (v : Lsv) (t : LeaseNo) :
    FollowsTalker (some t) (afterTurn (turned .waiting .active) k v r) := by
  refine ⟨fun _ _ => rfl, fun hs => ?_⟩
  rw [afterTurn, noticed_state] at hs
  dsimp only [turned] at hs
  split at hs
  · cases hs
  · next hn => exact absurd hs hn

/-- Replacing a record by one of the same kind, state and group, or by one that is not live. -/
theorem follows_setLease {v : Lsv} (h : v.Follows) {l : LeaseNo} {r : Lease}
    (hr : (r.kind = v.leases[l].kind ∧ r.state = v.leases[l].state ∧ r.group = v.leases[l].group) ∨ r.live = false) :
    (v.setLease l r).Follows := by
  rw [follows_iff] at h ⊢
  intro j
  rw [Lsv.setLease_leases, upd_get]
  split
  · next hj =>
    subst hj
    obtain ⟨hk, hs, hg⟩ | hdead := hr
    · rw [hg]
      exact (h l).congr hk hs
    · exact .ofDead hdead _
  · exact h j

theorem follows_ofSame {v w : Lsv} (h : v.Follows) (hl : w.leases = v.leases)
    (ht : ∀ g : GroupNo, w.groups[g].talker = v.groups[g].talker) : w.Follows := by
  rw [follows_iff] at h ⊢
  intro l
  rw [hl, talkerOf, ht]
  exact h l

/-! ### Retirement and creation -/

theorem retire_talkerOf (v : Lsv) (sc : Option Scope) (cause : RetireCause) (keep : Bool) (l : LeaseNo) (g : GroupNo) :
    talkerOf (v.retire sc cause keep l).lsv g =
      if v.leases[l].kind = .talk ∧ g = v.leases[l].group then none else talkerOf v g := by
  unfold talkerOf
  by_cases hg : g = v.leases[l].group
  · subst hg
    rw [retire_group_self]
    unfold leftGroup
    cases v.leases[l].kind <;> simp
  · rw [retire_group_other _ _ _ _ _ hg, if_neg fun hx => hg hx.2]

theorem follows_retire {v : Lsv} (ht : Tied v) (h : v.Follows) (sc : Option Scope) (cause : RetireCause) {l : LeaseNo}
    (hl : v.leases[l].live = true) : (v.retire sc cause false l).lsv.Follows := by
  rw [follows_iff] at h ⊢
  intro j
  by_cases hj : j = l
  · subst hj
    exact .ofDead (retire_dead v sc cause false j) _
  · rw [(retire_steady v sc cause false hj).group, retire_talkerOf]
    have hnodup := departureList_nodup (ht.grouped.once v.leases[l].group) false v.leases[l].kind
    rw [retire_lease_other v sc cause false hnodup hj]
    by_cases hmem : j ∈ departureList v.groups[v.leases[l].group] false v.leases[l].kind
    · have htalk : v.leases[l].kind = .talk := (mem_departureList.mp hmem).1.1
      obtain ⟨-, hkind, hgroup⟩ := Grouped.mem_departureList ht.grouped hmem
      rw [if_pos ⟨htalk, hgroup⟩, if_pos hmem]
      exact .waited hkind _ v
    · rw [if_neg hmem]
      split
      · next hx =>
        refine (h j).ofOther (fun hlive hkind => hmem ?_) none
        exact mem_departureList.mpr ⟨⟨hx.1, rfl⟩, (ht.grouped.lists _ j).mpr ⟨hlive, hkind, hx.2⟩⟩
      · exact h j

theorem create_talkerOf (v : Lsv) (sc : Option Scope) (fault : Bool) (ns : NewSlot) (r : Lease) (n : LeaseNo) (g : GroupNo) :
    talkerOf (v.create sc fault ns r n).1 g = if r.kind = .talk ∧ g = r.group then some n else talkerOf v g :=
  create_talker v sc fault ns r n g

/-- The new lease follows the talker of its group (R9, R60). -/
theorem follows_new {v : Lsv} (ht : Tied v) (sc : Option Scope) (fault : Bool) (ns : NewSlot) {r : Lease} {n : LeaseNo}
    (hn : v.leases[n].live = false) :
    FollowsTalker (talkerOf (v.create sc fault ns r n).1 r.group) (v.create sc fault ns r n).1.leases[n] := by
  have hnew : n ∉ v.groups[r.group].listeners := fun hmem => by
    rw [((ht.grouped.lists _ n).mp hmem).1] at hn
    cases hn
  rw [create_lease_self v sc fault ns r hnew, create_talkerOf]
  unfold Lsv.newState talkerOf
  refine ⟨fun hk hs => ?_, fun hs => ?_⟩
  · dsimp only at hk hs
    split at hs
    · cases hs
    · split at hs
      · cases hs
      · next hx =>
        rw [if_neg (by rw [hk]; exact nofun)]
        exact Option.isSome_iff_ne_none.mpr fun hnone => hx ⟨hk, hnone⟩
  · dsimp only at hs ⊢
    split at hs
    · cases hs
    · split at hs
      · next hx =>
        rw [if_neg (by rw [hx.1]; exact nofun)]
        exact hx
      · cases hs

theorem follows_create {v : Lsv} (ht : Tied v) (h : v.Follows) (sc : Option Scope) (fault : Bool) {ns : NewSlot} {r : Lease}
    {n : LeaseNo} (hn : v.leases[n].live = false) (hns : r.kind = .talk → ∃ sl, ns = .taken sl) :
    (v.create sc fault ns r n).1.Follows := by
  rw [follows_iff] at h ⊢
  intro j
  by_cases hj : j = n
  · subst hj
    rw [(create_steady_self v sc fault ns r j).group]
    exact follows_new ht sc fault ns hn
  · rw [(create_steady v sc fault ns r hj).group, create_talkerOf]
    have hnodup := arrivalList_nodup (ht.grouped.once r.group) ns r.kind
    rw [create_lease_other v sc fault ns r hnodup hj]
    by_cases hmem : j ∈ arrivalList v.groups[r.group] ns r.kind
    · have htalk : r.kind = .talk := (mem_arrivalList.mp hmem).1.1
      obtain ⟨-, -, hgroup⟩ := Grouped.mem_arrivalList ht.grouped hmem
      obtain ⟨sl, rfl⟩ := hns htalk
      rw [if_pos ⟨htalk, hgroup⟩, if_pos hmem]
      exact .activated _ _ v n
    · rw [if_neg hmem]
      split
      · next hx =>
        obtain ⟨sl, rfl⟩ := hns hx.1
        refine (h j).ofOther (fun hlive hkind => hmem ?_) _
        exact mem_arrivalList.mpr ⟨⟨hx.1, nofun⟩, (ht.grouped.lists _ j).mpr ⟨hlive, hkind, hx.2⟩⟩
      · exact h j

/-- A talker replaced by preemption leaves the listeners as they are (R18, R58). -/
theorem follows_preempted {v : Lsv} (ht : Tied v) (h : v.Follows) (sc : Option Scope) (fault : Bool) (sl : SlotNo) {r : Lease}
    {n t : LeaseNo} (hn : v.leases[n].state = .free) (talk : r.kind = .talk) (talker : v.groups[r.group].talker = some t) :
    ((v.retire sc .preempted true t).lsv.create sc fault (.passed sl) r n).1.Follows := by
  obtain ⟨hlive, hkind, hgroup⟩ := (ht.grouped.talker r.group t).mp talker
  have htied := ht.retire sc .preempted true hlive
  have hquiet (j : LeaseNo) : j ∉ departureList v.groups[v.leases[t].group] true v.leases[t].kind := fun hmem =>
    nomatch (mem_departureList.mp hmem).1.2
  have hdead : (v.retire sc .preempted true t).lsv.leases[n].live = false := by
    rw [← Bool.not_eq_true, retire_live_iff]
    exact fun hx => not_free_of_live hx.2 hn
  rw [follows_iff] at h ⊢
  intro j
  by_cases hjn : j = n
  · subst hjn
    rw [(create_steady_self _ sc fault (.passed sl) r j).group]
    exact follows_new htied sc fault _ hdead
  · have hsame := create_steady (v.retire sc .preempted true t).lsv sc fault (.passed sl) r hjn
    rw [hsame.group, create_talkerOf]
    by_cases hjt : j = t
    · subst hjt
      exact .ofDead (hsame.live.trans (retire_dead v sc .preempted true j)) _
    · have hretired := retire_lease_untouched v sc .preempted true hjt (hquiet j)
      have hstate : ((v.retire sc .preempted true t).lsv.create sc fault (.passed sl) r n).1.leases[j].state =
          v.leases[j].state := by
        rw [create_lease_other _ sc fault _ r (arrivalList_nodup (htied.grouped.once r.group) _ r.kind) hjn, hretired]
        split
        · rw [afterTurn, noticed_state]
          rfl
        · rfl
      rw [hretired] at hsame ⊢
      refine FollowsTalker.congr ?_ hsame.kind hstate
      rw [retire_talkerOf]
      by_cases hg : v.leases[j].group = r.group
      · rw [if_pos ⟨talk, hg⟩]
        refine ⟨fun _ _ => rfl, fun hw => ?_⟩
        have hnone := ((h j).waiting hw).2
        rw [hg] at hnone
        exact (nomatch hnone.symm.trans talker)
      · rw [if_neg fun hx => hg hx.2, if_neg fun hx => hg (hx.2.trans hgroup)]
        exact h j

/-! ### Every change -/

theorem follows_change {ports : Vector Port 4} {v w : Lsv} (ht : Tied v) (h : v.Follows) (hc : TableChange ports v w) :
    w.Follows := by
  induction hc with
  | same v => exact h
  | trans hfirst _ ih ih' => exact ih' (ht.change hfirst) (ih ht h)
  | record bound alike state notices => exact follows_setLease h (.inl ⟨alike.kind, state, alike.group⟩)
  | retired sc cause bound => exact follows_retire ht h sc cause (ht.bound_live bound)
  | purged dead => exact follows_ofSame (follows_setLease h (r := Lease.cleared) (.inr rfl)) rfl fun _ => rfl
  | @served v l rest head =>
    refine follows_ofSame (follows_setLease h (l := l) (r := v.leases[l].noticesTaken) ?_) rfl fun _ => rfl
    unfold Lease.noticesTaken
    split
    · exact .inr rfl
    · exact .inl ⟨rfl, rfl, rfl⟩
  | created sc opens admits =>
    refine follows_create ht h sc _ (dead_of_free opens.free) fun htalk => ?_
    obtain ⟨sl, hsl, -⟩ := admits.taken (by rw [htalk]; exact nofun)
    exact ⟨sl, hsl⟩
  | preempted sc opens talk talker slot => exact follows_preempted ht h sc _ _ opens.free talk talker
  | @displaced v sc r n b opens listen victim =>
    have hlive := ((ht.grouped.lists _ _).mp victim).1
    have hopens := opens_after_retire ht.grouped sc .preempted false opens hlive
    exact follows_create (ht.retire sc .preempted false hlive) (follows_retire ht h sc .preempted hlive) sc _
      (dead_of_free hopens.free) fun htalk => nomatch listen.symm.trans htalk
  | @moved v l sl live kind takeable =>
    have hset := follows_setLease h (l := l) (r := { v.leases[l] with slot := some sl }) (.inl ⟨rfl, rfl, rfl⟩)
    exact follows_ofSame hset (moveLease_leases v l sl) fun g => by rw [moveLease_groups]; rfl
  | settings floors small => exact follows_ofSame h rfl fun _ => rfl
  | tap target source => exact follows_ofSame h rfl fun _ => rfl
  | group talker listeners cap => exact follows_ofSame h rfl (upd_get_apply Group.talker talker)
  | @reserved v sl =>
    obtain ⟨hl, hg, -, -, -⟩ := reserveSlot_frame v sl
    exact follows_ofSame h hl fun g => by rw [hg]
  | @released v sl free =>
    obtain ⟨hl, hg, -, -, -⟩ := releaseSlot_frame v sl
    exact follows_ofSame h hl fun g => by rw [hg]
  | phase => exact follows_ofSame h rfl fun _ => rfl

theorem follows_conditionPort {v : Lsv} (h : v.Follows) (p : PortNo) : (v.conditionPort p).Follows := by
  rw [follows_iff] at h ⊢
  intro l
  rw [(conditionPort_alike v p l).group, conditionPort_lease]
  have htalker (g : GroupNo) : talkerOf (v.conditionPort p) g = talkerOf v g := by
    rw [talkerOf, Lsv.conditionPort, changeAll_groups, talkerOf]
  rw [htalker]
  split
  · refine .ofIdle ?_ ?_ _ <;> exact nofun ∘ (noticed_state v _ _).symm.trans
  · exact h l

/-- The state a lease takes at its port's recovery follows its talker (R120). -/
theorem FollowsTalker.restored (v : Lsv) (r : Lease) :
    FollowsTalker (talkerOf v r.group) { r with state := v.restoredState r } := by
  unfold Lsv.restoredState talkerOf
  split
  · next hx => exact ⟨nofun, fun _ => hx⟩
  · next hx => exact ⟨fun hk _ => Option.isSome_iff_ne_none.mpr fun hnone => hx ⟨hk, hnone⟩, nofun⟩

theorem follows_restorePort {v : Lsv} (h : v.Follows) (p : PortNo) : (v.restorePort p).Follows := by
  rw [follows_iff] at h ⊢
  intro l
  rw [(restorePort_alike v p l).group, restorePort_lease]
  have htalker (g : GroupNo) : talkerOf (v.restorePort p) g = talkerOf v g := by
    rw [talkerOf, Lsv.restorePort, changeAll_groups, talkerOf]
  rw [htalker]
  split
  · exact (FollowsTalker.restored v v.leases[l]).congr (by rw [afterTurn, noticed_keeps]) (noticed_state v _ _)
  · exact h l

/-- Settles O56: each change keeps the listeners with their talker; a preemption as one change, its two halves do not. -/
theorem listenersFollowPresence : Obligations.ListenersFollowPresence := by
  intro s t hg hm h hstep
  have hc := step_changes hstep
  unfold Changes at hc
  generalize t.lsv = w, t.ports = ports' at hc ⊢
  cases hc with
  | tables change lines => exact follows_change ⟨hg, hm⟩ h change
  | conditioned => exact follows_conditionPort h _
  | restored => exact follows_restorePort h _
  | configured => exact h
  | initial => exact ⟨fun l _ ha => (initial_dead ((Lease.live_iff _).mpr (.inl ha))).elim,
      fun l hw => (initial_dead ((Lease.live_iff _).mpr (.inr (.inl hw)))).elim⟩

end Sys2Proof.Spec
end

section
/-! PROOF. The lists of free and quarantined slots (R32, R33): what each slot operation keeps of them. -/

namespace Sys2Proof.Spec

open Sys2Proof.Machine

/-- The free list and the quarantine list hold their slots once and exactly, and guards are in range. -/
structure Pooled (v : Lsv) : Prop where
  freeOnce : v.freeList.Nodup
  freeExact : ∀ sl : SlotNo, sl ∈ v.freeList ↔ v.slots[sl].state = .free
  quarantineOnce : v.quarantine.Nodup
  quarantineExact : ∀ sl : SlotNo, sl ∈ v.quarantine ↔ v.slots[sl].state = .quarantine
  guards : ∀ sl : SlotNo, v.slots[sl].state = .quarantine → ∃ n, v.slots[sl].guard = some n ∧ 1 ≤ n ∧ n ≤ 15
  setting : v.guardSetting ≤ 15

/-! ### A list that one slot joins, leaves, or stays out of -/

/-- `after` is the list `before` but for slot `sl`, which it holds exactly when `p`; it holds each slot once. -/
structure Relists (before after : List SlotNo) (sl : SlotNo) (p : Prop) : Prop where
  once : after.Nodup
  mem : ∀ j, j ∈ after ↔ (j = sl ∧ p) ∨ (j ≠ sl ∧ j ∈ before)

theorem Relists.stays {ls : List SlotNo} (hn : ls.Nodup) {sl : SlotNo} (h : sl ∉ ls) {p : Prop} (hp : ¬ p) :
    Relists ls ls sl p := by
  refine ⟨hn, fun j => ⟨fun hj => .inr ⟨fun hjs => h (hjs ▸ hj), hj⟩, fun hj => ?_⟩⟩
  obtain ⟨-, hx⟩ | ⟨-, hx⟩ := hj
  · exact absurd hx hp
  · exact hx

theorem Relists.joins {ls : List SlotNo} (hn : ls.Nodup) {sl : SlotNo} (h : sl ∉ ls) {p : Prop} (hp : p) :
    Relists ls (ls ++ [sl]) sl p := by
  refine ⟨List.nodup_append.mpr ⟨hn, List.nodup_singleton sl, fun a ha b hb hab =>
    h (List.mem_singleton.mp hb ▸ hab ▸ ha)⟩, fun j => ?_⟩
  rw [List.mem_append, List.mem_singleton]
  constructor
  · rintro (hj | rfl)
    · exact .inr ⟨fun hjs => h (hjs ▸ hj), hj⟩
    · exact .inl ⟨rfl, hp⟩
  · rintro (⟨hj, -⟩ | ⟨-, hj⟩)
    · exact .inr hj
    · exact .inl hj

theorem Relists.leaves {ls : List SlotNo} (hn : ls.Nodup) {sl : SlotNo} {p : Prop} (hp : ¬ p) :
    Relists ls (ls.erase sl) sl p := by
  refine ⟨hn.erase sl, fun j => ?_⟩
  rw [hn.mem_erase_iff]
  exact ⟨.inr, fun hj => hj.resolve_left fun hx => hp hx.2⟩

/-- One slot record replaced, with the lists following it. -/
theorem Pooled.replaced {v w : Lsv} (h : Pooled v) {sl : SlotNo} {r : SlotRec} (slots : w.slots = upd v.slots sl r)
    (setting : w.guardSetting = v.guardSetting) (free : Relists v.freeList w.freeList sl (r.state = .free))
    (quarantine : Relists v.quarantine w.quarantine sl (r.state = .quarantine))
    (guard : r.state = .quarantine → ∃ n, r.guard = some n ∧ 1 ≤ n ∧ n ≤ 15) : Pooled w := by
  have hstate (x : SlotState) (j : SlotNo) :
      w.slots[j].state = x ↔ (j = sl ∧ r.state = x) ∨ (j ≠ sl ∧ v.slots[j].state = x) := by
    rw [slots, upd_get]
    by_cases hj : sl = j
    · simp [hj]
    · rw [if_neg hj]
      exact ⟨fun hx => .inr ⟨Ne.symm hj, hx⟩, fun hx => (hx.resolve_left fun hy => hj hy.1.symm).2⟩
  refine ⟨free.once, fun j => ?_, quarantine.once, fun j => ?_, fun j hj => ?_, setting ▸ h.setting⟩
  · rw [free.mem, hstate, h.freeExact]
  · rw [quarantine.mem, hstate, h.quarantineExact]
  · obtain ⟨rfl, hr⟩ | ⟨hne, hq⟩ := (hstate .quarantine j).mp hj
    · rw [slots, upd_get_self]
      exact guard hr
    · rw [slots, upd_get_other _ (Ne.symm hne)]
      exact h.guards j hq

/-! ### The slot operations -/

/-- A slot record that stands in neither list. -/
structure Unlisted (r : SlotRec) : Prop where
  free : r.state ≠ .free
  quarantine : r.state ≠ .quarantine

theorem Unlisted.ofHeld {r : SlotRec} (h : r.state = .held) : Unlisted r := ⟨by rw [h]; exact nofun, by rw [h]; exact nofun⟩

theorem Unlisted.ofReserved {r : SlotRec} (h : r.state = .reserved) : Unlisted r :=
  ⟨by rw [h]; exact nofun, by rw [h]; exact nofun⟩

theorem Pooled.not_free {v : Lsv} (h : Pooled v) {sl : SlotNo} (hs : v.slots[sl].state ≠ .free) : sl ∉ v.freeList :=
  mt (h.freeExact sl).mp hs

theorem Pooled.not_quarantine {v : Lsv} (h : Pooled v) {sl : SlotNo} (hs : v.slots[sl].state ≠ .quarantine) :
    sl ∉ v.quarantine :=
  mt (h.quarantineExact sl).mp hs

/-- Replacing a slot that stands in neither list by another such. -/
theorem Pooled.setSlot {v : Lsv} (h : Pooled v) {sl : SlotNo} {r : SlotRec} (old : Unlisted v.slots[sl]) (new : Unlisted r) :
    Pooled (v.setSlot sl r) :=
  h.replaced rfl rfl (.stays h.freeOnce (h.not_free old.free) new.free)
    (.stays h.quarantineOnce (h.not_quarantine old.quarantine) new.quarantine) fun hq => absurd hq new.quarantine

/-- A slot that joins the pool (R33). -/
theorem Pooled.toPool {v : Lsv} (h : Pooled v) {sl : SlotNo} (old : Unlisted v.slots[sl]) : Pooled (v.toPool sl) := by
  by_cases hguard : v.guardSetting = 0
  · rw [Lsv.toPool_unguarded hguard]
    exact h.replaced rfl rfl (.joins h.freeOnce (h.not_free old.free) rfl)
      (.stays h.quarantineOnce (h.not_quarantine old.quarantine) nofun) nofun
  · rw [Lsv.toPool_guarded hguard]
    exact h.replaced rfl rfl (.stays h.freeOnce (h.not_free old.free) nofun)
      (.joins h.quarantineOnce (h.not_quarantine old.quarantine) rfl)
      fun _ => ⟨_, rfl, Nat.one_le_iff_ne_zero.mpr hguard, h.setting⟩

/-- A HELD slot that is given up (R17, R31). -/
theorem Pooled.giveUp {v : Lsv} (h : Pooled v) {sl : SlotNo} (held : v.slots[sl].state = .held) : Pooled (v.giveUp sl) := by
  unfold Lsv.giveUp
  split
  · exact h.setSlot (.ofHeld held) (.ofReserved rfl)
  · exact h.toPool (.ofHeld held)

/-- In a pool whose lists are exact, a slot that can be taken is FREE or RESERVED. -/
theorem Pooled.takeable {v : Lsv} (h : Pooled v) {sl : SlotNo} (ht : Takeable v sl) :
    v.slots[sl].state = .free ∨ (v.slots[sl].state = .reserved ∧ ¬ TapTarget v sl) := by
  obtain hmem | hst := ht
  · exact .inl ((h.freeExact sl).mp hmem)
  · exact hst

/-- A FREE or RESERVED slot that is taken (R25, R31). -/
theorem Pooled.takeSlot {v : Lsv} (h : Pooled v) {sl : SlotNo}
    (hs : v.slots[sl].state = .free ∨ v.slots[sl].state = .reserved) (l : LeaseNo) : Pooled (v.takeSlot sl l) := by
  obtain hfree | hreserved := hs
  · rw [Lsv.takeSlot, if_neg (by rw [hfree]; exact nofun)]
    exact h.replaced rfl rfl (.leaves h.freeOnce nofun)
      (.stays h.quarantineOnce (h.not_quarantine (by rw [hfree]; exact nofun)) nofun) nofun
  · rw [Lsv.takeSlot, if_pos hreserved]
    exact h.setSlot (.ofReserved hreserved) (.ofHeld rfl)

/-- SLOT_RESERVE (R38). -/
theorem Pooled.reserveSlot {v : Lsv} (h : Pooled v) (sl : SlotNo) : Pooled (v.reserveSlot sl) := by
  unfold Lsv.reserveSlot
  split
  · next hfree =>
    exact h.replaced rfl rfl (.leaves h.freeOnce nofun)
      (.stays h.quarantineOnce (h.not_quarantine (by rw [hfree]; exact nofun)) nofun) nofun
  · next hq =>
    exact h.replaced rfl rfl (.stays h.freeOnce (h.not_free (by rw [hq]; exact nofun)) nofun)
      (.leaves h.quarantineOnce nofun) nofun
  · exact h
  · next hheld => exact h.setSlot (.ofHeld hheld) (.ofHeld hheld)

/-- SLOT_RELEASE (R39). -/
theorem Pooled.releaseSlot {v : Lsv} (h : Pooled v) (sl : SlotNo) : Pooled (v.releaseSlot sl) := by
  unfold Lsv.releaseSlot
  split
  · next hreserved => exact h.toPool (.ofReserved hreserved)
  · next hheld => exact h.setSlot (.ofHeld hheld) (.ofHeld hheld)
  · exact h
  · exact h

/-- The slots after a quarantine phase: one whose guard ends becomes FREE, another in quarantine keeps its place (R34). -/
theorem quarantinePhase_slot (v : Lsv) (sl : SlotNo) :
    v.quarantinePhase.slots[sl] =
      if sl ∈ v.quarantine then
        if v.slots[sl].guard.getD 0 ≤ 1 then SlotRec.free
        else { v.slots[sl] with guard := v.slots[sl].guard.map (· - 1) }
      else v.slots[sl] := by
  unfold Lsv.quarantinePhase
  rw [tab_get]
  simp only [decide_eq_true_iff]

theorem mem_phase_freeList (v : Lsv) (sl : SlotNo) :
    sl ∈ v.quarantinePhase.freeList ↔ sl ∈ v.freeList ∨ (sl ∈ v.quarantine ∧ v.slots[sl].guard.getD 0 ≤ 1) := by
  unfold Lsv.quarantinePhase
  rw [List.mem_append, List.mem_filter, decide_eq_true_iff]

theorem mem_phase_quarantine (v : Lsv) (sl : SlotNo) :
    sl ∈ v.quarantinePhase.quarantine ↔ sl ∈ v.quarantine ∧ ¬ v.slots[sl].guard.getD 0 ≤ 1 := by
  unfold Lsv.quarantinePhase
  rw [List.mem_filter, Bool.not_eq_true', decide_eq_false_iff_not]

/-- The quarantine phase (R34). -/
theorem Pooled.phase {v : Lsv} (h : Pooled v) : Pooled v.quarantinePhase := by
  have hstays (sl : SlotNo) (hq : sl ∈ v.quarantine) : sl ∉ v.freeList := fun hf => by
    have hfree := (h.freeExact sl).mp hf
    rw [(h.quarantineExact sl).mp hq] at hfree
    cases hfree
  refine ⟨?freeOnce, fun sl => ?freeExact, h.quarantineOnce.filter _, fun sl => ?quarantineExact, fun sl hsl => ?guards,
    h.setting⟩
  case freeOnce =>
    exact List.nodup_append.mpr ⟨h.freeOnce, h.quarantineOnce.filter _, fun a ha b hb hab =>
      hstays b (List.mem_filter.mp hb).1 (hab ▸ ha)⟩
  case freeExact =>
    rw [mem_phase_freeList, quarantinePhase_slot]
    by_cases hq : sl ∈ v.quarantine
    · have hstate := (h.quarantineExact sl).mp hq
      rw [if_pos hq, or_iff_right (hstays sl hq), and_iff_right hq]
      split
      · next hguard => exact iff_of_true hguard rfl
      · next hguard => exact iff_of_false hguard (by rw [hstate]; exact nofun)
    · rw [if_neg hq, or_iff_left fun hx => hq hx.1]
      exact h.freeExact sl
  case quarantineExact =>
    rw [mem_phase_quarantine, quarantinePhase_slot]
    by_cases hq : sl ∈ v.quarantine
    · have hstate := (h.quarantineExact sl).mp hq
      rw [if_pos hq, and_iff_right hq]
      split
      · next hguard => exact iff_of_false (not_not.mpr hguard) nofun
      · next hguard => exact iff_of_true hguard hstate
    · rw [if_neg hq]
      exact iff_of_false (fun hx => hq hx.1) (mt (h.quarantineExact sl).mpr hq)
  case guards =>
    rw [quarantinePhase_slot] at hsl ⊢
    by_cases hq : sl ∈ v.quarantine
    · rw [if_pos hq] at hsl ⊢
      split at hsl
      · cases hsl
      · next hguard =>
        obtain ⟨n, hn, -, hle⟩ := h.guards sl ((h.quarantineExact sl).mp hq)
        rw [if_neg hguard]
        rw [hn, Option.getD_some] at hguard
        refine ⟨n - 1, by rw [hn]; rfl, ?_, ?_⟩ <;> omega
    · rw [if_neg hq] at hsl
      exact absurd ((h.quarantineExact sl).mpr hsl) hq

end Sys2Proof.Spec
end

section
/-! PROOF. Slots and the leases that hold them, and the tap (R4, R30, R31, R46): each change of the tables keeps them exact. -/

namespace Sys2Proof.Spec

open Sys2Proof.Machine

/-! ### Holders -/

/-- A slot has a holder and a home exactly while it is HELD (R31). -/
structure Housed (r : SlotRec) : Prop where
  occupied : r.state = .held → r.holder.isSome ∧ r.home.isSome
  vacant : r.state ≠ .held → r.holder = none ∧ r.home = none

/-- A live DUPLEX or TALK lease has a slot and a LISTEN lease none (R4). -/
structure Equipped (r : Lease) : Prop where
  needs : r.live = true → r.kind ≠ .listen → r.slot.isSome
  listens : r.live = true → r.kind = .listen → r.slot = none

/-- A slot is HELD exactly by the live lease that names it, and slots and leases are each in order. -/
structure Tenanted (v : Lsv) : Prop where
  holder : ∀ (sl : SlotNo) (l : LeaseNo), v.slots[sl].holder = some l → v.leases[l].live ∧ v.leases[l].slot = some sl
  held : ∀ (l : LeaseNo) (sl : SlotNo), v.leases[l].slot = some sl →
    v.slots[sl].state = .held ∧ v.slots[sl].holder = some l
  housed : ∀ sl : SlotNo, Housed v.slots[sl]
  equipped : ∀ l : LeaseNo, Equipped v.leases[l]

/-- Only a live lease names a slot. -/
theorem Tenanted.live_of_slot {v : Lsv} (h : Tenanted v) {l : LeaseNo} {sl : SlotNo} (hs : v.leases[l].slot = some sl) :
    v.leases[l].live = true :=
  (h.holder sl l (h.held l sl hs).2).1

theorem Tenanted.slot_of_dead {v : Lsv} (h : Tenanted v) {l : LeaseNo} (hl : v.leases[l].live = false) :
    v.leases[l].slot = none := by
  cases hs : v.leases[l].slot with
  | none => rfl
  | some sl =>
    rw [h.live_of_slot hs] at hl
    cases hl

/-- A slot that is not HELD has no holder. -/
theorem Tenanted.not_held {v : Lsv} (h : Tenanted v) {sl : SlotNo} (hs : v.slots[sl].state ≠ .held) (l : LeaseNo) :
    v.leases[l].slot ≠ some sl := fun hl => hs (h.held l sl hl).1

/-- The record is live exactly when it was, with the same slot, and then of the same kind. -/
structure SameTenant (r r' : Lease) : Prop where
  live : r'.live = r.live
  slot : r'.slot = r.slot
  kind : r.live = true → r'.kind = r.kind

theorem Alike.sameTenant {r r' : Lease} (h : Alike r r') : SameTenant r r' := ⟨h.live, h.slot, fun _ => h.kind⟩

theorem SameTenant.refl (r : Lease) : SameTenant r r := (Alike.refl r).sameTenant

theorem SameTenant.equipped {r r' : Lease} (h : SameTenant r r') (hr : Equipped r) : Equipped r' := by
  refine ⟨fun hl => ?_, fun hl => ?_⟩ <;> rw [h.live] at hl <;> rw [h.kind hl, h.slot]
  · exact hr.needs hl
  · exact hr.listens hl

theorem Equipped.ofDead {r : Lease} (h : r.live = false) : Equipped r :=
  ⟨fun hl => (nomatch h.symm.trans hl), fun hl => (nomatch h.symm.trans hl)⟩

/-- The slot is HELD exactly when it was, by the same lease, and has a home exactly when it had one. -/
structure SameHolder (r r' : SlotRec) : Prop where
  held : r'.state = .held ↔ r.state = .held
  holder : r'.holder = r.holder
  home : r'.home = none ↔ r.home = none

theorem SameHolder.refl (r : SlotRec) : SameHolder r r := ⟨.rfl, rfl, .rfl⟩

theorem SameHolder.housed {r r' : SlotRec} (h : SameHolder r r') (hr : Housed r) : Housed r' := by
  refine ⟨fun hs => ?_, fun hs => ?_⟩
  · obtain ⟨hholder, hhome⟩ := hr.occupied (h.held.mp hs)
    rw [h.holder]
    exact ⟨hholder, Option.isSome_iff_ne_none.mpr fun hn => Option.isSome_iff_ne_none.mp hhome (h.home.mp hn)⟩
  · obtain ⟨hholder, hhome⟩ := hr.vacant (mt h.held.mpr hs)
    rw [h.holder]
    exact ⟨hholder, h.home.mpr hhome⟩

/-- A slot record that is not HELD and has neither holder nor home. -/
structure VacantSlot (r : SlotRec) : Prop where
  state : r.state ≠ .held
  holder : r.holder = none
  home : r.home = none

theorem VacantSlot.housed {r : SlotRec} (h : VacantSlot r) : Housed r :=
  ⟨fun hs => absurd hs h.state, fun _ => ⟨h.holder, h.home⟩⟩

theorem VacantSlot.sameHolder {r r' : SlotRec} (h : VacantSlot r) (h' : VacantSlot r') : SameHolder r r' :=
  ⟨iff_of_false h'.state h.state, h'.holder.trans h.holder.symm, iff_of_true h'.home h.home⟩

theorem Tenanted.vacant {v : Lsv} (h : Tenanted v) {sl : SlotNo} (hs : v.slots[sl].state ≠ .held) : VacantSlot v.slots[sl] :=
  ⟨hs, ((h.housed sl).vacant hs).1, ((h.housed sl).vacant hs).2⟩

/-- Leases and slots that stay what they are to each other. -/
theorem Tenanted.ofSame {v w : Lsv} (h : Tenanted v) (leases : ∀ l : LeaseNo, SameTenant v.leases[l] w.leases[l])
    (slots : ∀ sl : SlotNo, SameHolder v.slots[sl] w.slots[sl]) : Tenanted w := by
  refine ⟨fun sl l hs => ?_, fun l sl hs => ?_, fun sl => (slots sl).housed (h.housed sl),
    fun l => (leases l).equipped (h.equipped l)⟩
  · rw [(slots sl).holder] at hs
    rw [(leases l).live, (leases l).slot]
    exact h.holder sl l hs
  · rw [(leases l).slot] at hs
    rw [(slots sl).held, (slots sl).holder]
    exact h.held l sl hs

/-- A lease that ends, or goes on without its slot, which it leaves vacant. -/
theorem Tenanted.left {v w : Lsv} (h : Tenanted v) {l : LeaseNo} (dead : w.leases[l].live = false)
    (slot : w.leases[l].slot = none) (others : ∀ j : LeaseNo, j ≠ l → SameTenant v.leases[j] w.leases[j])
    (vacated : ∀ sl : SlotNo, v.leases[l].slot = some sl → VacantSlot w.slots[sl])
    (slots : ∀ sl : SlotNo, v.leases[l].slot ≠ some sl → w.slots[sl] = v.slots[sl]) : Tenanted w := by
  refine ⟨fun sl j hs => ?_, fun j sl hs => ?_, fun sl => ?_, fun j => ?_⟩
  · have hsl : v.leases[l].slot ≠ some sl := fun hx => by
      rw [(vacated sl hx).holder] at hs
      cases hs
    rw [slots sl hsl] at hs
    obtain ⟨hlive, hslot⟩ := h.holder sl j hs
    have hj : j ≠ l := fun hjl => hsl (hjl ▸ hslot)
    rw [(others j hj).live, (others j hj).slot]
    exact ⟨hlive, hslot⟩
  · have hj : j ≠ l := by
      rintro rfl
      rw [slot] at hs
      cases hs
    rw [(others j hj).slot] at hs
    have hheld := h.held j sl hs
    have hsl : v.leases[l].slot ≠ some sl := fun hx =>
      hj (Option.some.inj (hheld.2.symm.trans (h.held l sl hx).2))
    rw [slots sl hsl]
    exact hheld
  · by_cases hsl : v.leases[l].slot = some sl
    · exact (vacated sl hsl).housed
    · rw [slots sl hsl]
      exact h.housed sl
  · by_cases hj : j = l
    · subst hj
      exact .ofDead dead
    · exact (others j hj).equipped (h.equipped j)

/-- A lease that begins, with a slot that was vacant or without one. -/
theorem Tenanted.entered {v w : Lsv} (h : Tenanted v) {n : LeaseNo} (dead : v.leases[n].live = false)
    (live : w.leases[n].live = true) (equipped : Equipped w.leases[n])
    (others : ∀ j : LeaseNo, j ≠ n → SameTenant v.leases[j] w.leases[j])
    (taken : ∀ sl : SlotNo, w.leases[n].slot = some sl →
      v.slots[sl].state ≠ .held ∧ w.slots[sl].state = .held ∧ w.slots[sl].holder = some n ∧ w.slots[sl].home.isSome)
    (slots : ∀ sl : SlotNo, w.leases[n].slot ≠ some sl → w.slots[sl] = v.slots[sl]) : Tenanted w := by
  refine ⟨fun sl j hs => ?_, fun j sl hs => ?_, fun sl => ?_, fun j => ?_⟩
  · by_cases hsl : w.leases[n].slot = some sl
    · obtain ⟨-, -, hholder, -⟩ := taken sl hsl
      obtain rfl := Option.some.inj (hholder.symm.trans hs)
      exact ⟨live, hsl⟩
    · rw [slots sl hsl] at hs
      obtain ⟨hlive, hslot⟩ := h.holder sl j hs
      have hj : j ≠ n := by
        rintro rfl
        rw [hlive] at dead
        cases dead
      rw [(others j hj).live, (others j hj).slot]
      exact ⟨hlive, hslot⟩
  · by_cases hj : j = n
    · subst hj
      obtain ⟨-, hheld, hholder, -⟩ := taken sl hs
      exact ⟨hheld, hholder⟩
    · rw [(others j hj).slot] at hs
      have hheld := h.held j sl hs
      rw [slots sl fun hx => (taken sl hx).1 hheld.1]
      exact hheld
  · by_cases hsl : w.leases[n].slot = some sl
    · obtain ⟨-, hheld, hholder, hhome⟩ := taken sl hsl
      exact ⟨fun _ => ⟨by rw [hholder]; rfl, hhome⟩, fun hx => absurd hheld hx⟩
    · rw [slots sl hsl]
      exact h.housed sl
  · by_cases hj : j = n
    · subst hj
      exact equipped
    · exact (others j hj).equipped (h.equipped j)

/-- A slot that passes from the lease that ends to the one that begins (R58). -/
theorem Tenanted.passed {v w : Lsv} (h : Tenanted v) {t n : LeaseNo} {sl : SlotNo} (ht : v.leases[t].slot = some sl)
    (hn : v.leases[n].live = false) (dead : w.leases[t].live = false) (slot : w.leases[t].slot = none)
    (live : w.leases[n].live = true) (passed : w.leases[n].slot = some sl) (kind : w.leases[n].kind ≠ .listen)
    (others : ∀ j : LeaseNo, j ≠ t → j ≠ n → SameTenant v.leases[j] w.leases[j])
    (slots : w.slots = upd v.slots sl { v.slots[sl] with holder := some n }) : Tenanted w := by
  have hheld := h.held t sl ht
  have hnt : n ≠ t := by
    rintro rfl
    rw [dead] at live
    cases live
  have hother (sl' : SlotNo) (hne : sl ≠ sl') : w.slots[sl'] = v.slots[sl'] := by rw [slots, upd_get_other _ hne]
  have hself : w.slots[sl] = { v.slots[sl] with holder := some n } := by rw [slots, upd_get_self]
  refine ⟨fun sl' j hs => ?_, fun j sl' hs => ?_, fun sl' => ?_, fun j => ?_⟩
  · by_cases hsl : sl = sl'
    · subst hsl
      rw [hself] at hs
      obtain rfl := Option.some.inj hs
      exact ⟨live, passed⟩
    · rw [hother sl' hsl] at hs
      obtain ⟨hlive, hslot⟩ := h.holder sl' j hs
      have hjt : j ≠ t := by
        rintro rfl
        exact hsl (Option.some.inj (ht.symm.trans hslot))
      have hjn : j ≠ n := by
        rintro rfl
        rw [hlive] at hn
        cases hn
      rw [(others j hjt hjn).live, (others j hjt hjn).slot]
      exact ⟨hlive, hslot⟩
  · by_cases hjn : j = n
    · subst hjn
      obtain rfl := Option.some.inj (passed.symm.trans hs)
      rw [hself]
      exact ⟨hheld.1, rfl⟩
    · have hjt : j ≠ t := by
        rintro rfl
        rw [slot] at hs
        cases hs
      rw [(others j hjt hjn).slot] at hs
      have hj := h.held j sl' hs
      have hsl : sl ≠ sl' := by
        rintro rfl
        exact hjt (Option.some.inj (hj.2.symm.trans hheld.2))
      rw [hother sl' hsl]
      exact hj
  · by_cases hsl : sl = sl'
    · subst hsl
      rw [hself]
      exact ⟨fun _ => ⟨rfl, ((h.housed sl).occupied hheld.1).2⟩, fun hx => absurd hheld.1 hx⟩
    · rw [hother sl' hsl]
      exact h.housed sl'
  · by_cases hjn : j = n
    · subst hjn
      exact ⟨fun _ _ => by rw [passed]; rfl, fun _ hk => absurd hk kind⟩
    · by_cases hjt : j = t
      · subst hjt
        exact .ofDead dead
      · exact (others j hjt hjn).equipped (h.equipped j)

/-! ### The tap (R46) -/

/-- While the tap is ON its target is RESERVED and its source is live. -/
structure Tapped (v : Lsv) : Prop where
  target : v.tap.state = .on → ∃ sl : SlotNo, v.tap.target = some sl ∧ v.slots[sl].state = .reserved
  source : v.tap.state = .on → ∃ l : LeaseNo, v.tap.source = some l ∧ v.leases[l].live

/-- The tap stays, its target stays RESERVED and its source live. -/
theorem Tapped.ofSame {v w : Lsv} (h : Tapped v) (tap : w.tap = v.tap)
    (target : ∀ sl : SlotNo, TapTarget v sl → v.slots[sl].state = .reserved → w.slots[sl].state = .reserved)
    (source : ∀ l : LeaseNo, v.tap.state = .on → v.tap.source = some l → v.leases[l].live = true → w.leases[l].live = true) :
    Tapped w := by
  refine ⟨fun hon => ?_, fun hon => ?_⟩ <;> rw [tap] at hon ⊢
  · obtain ⟨sl, hsl, hst⟩ := h.target hon
    exact ⟨sl, hsl, target sl ⟨hon, hsl⟩ hst⟩
  · obtain ⟨l, hl, hlive⟩ := h.source hon
    exact ⟨l, hl, source l hon hl hlive⟩

/-- The tap's side of a lease's end: it ends with its source (R20). -/
theorem leaveTap_on {v : Lsv} {l : LeaseNo} (h : (v.leaveTap l).tap.state = .on) :
    (v.leaveTap l).tap = v.tap ∧ v.tap.source ≠ some l := by
  unfold Lsv.leaveTap at h ⊢
  by_cases hfeeds : v.feedsTap l = true
  · rw [if_pos hfeeds] at h
    cases h
  · rw [if_neg hfeeds] at h ⊢
    exact ⟨rfl, fun hsource => hfeeds ((feedsTap_iff v l).mpr ⟨h, hsource⟩)⟩

/-- The end of a lease: the tap ends if the lease was its source. -/
theorem Tapped.left {v w : Lsv} (h : Tapped v) {l : LeaseNo} (tap : w.tap = (v.leaveTap l).tap)
    (target : ∀ sl : SlotNo, v.slots[sl].state = .reserved → w.slots[sl].state = .reserved)
    (others : ∀ j : LeaseNo, j ≠ l → v.leases[j].live = true → w.leases[j].live = true) : Tapped w := by
  refine ⟨fun hon => ?_, fun hon => ?_⟩ <;> rw [tap] at hon ⊢ <;> obtain ⟨hsame, hsource⟩ := leaveTap_on hon <;>
    rw [hsame] at hon ⊢
  · obtain ⟨sl, hsl, hst⟩ := h.target hon
    exact ⟨sl, hsl, target sl hst⟩
  · obtain ⟨j, hj, hlive⟩ := h.source hon
    exact ⟨j, hj, others j (fun hjl => hsource (hjl ▸ hj)) hlive⟩

end Sys2Proof.Spec
end

section
/-! PROOF. Every change of the tables keeps slots, holders, lists and tap exact: O59. -/

namespace Sys2Proof.Spec

open Sys2Proof.Machine

/-- The invariant of the slots, in its three parts. -/
structure SlotsExact (v : Lsv) : Prop where
  pooled : Pooled v
  tenanted : Tenanted v
  tapped : Tapped v

theorem slotted_iff (v : Lsv) : v.Slotted ↔ SlotsExact v := by
  constructor
  · intro h
    exact ⟨⟨h.freeOnce, h.freeExact, h.quarantineOnce, h.quarantineExact, h.guards, h.setting⟩,
      ⟨h.holder, h.held, fun sl => ⟨h.occupied sl, h.vacant sl⟩, fun l => ⟨h.needs l, h.listens l⟩⟩, ⟨h.target, h.source⟩⟩
  · rintro ⟨hp, ht, htap⟩
    exact ⟨hp.freeOnce, hp.freeExact, hp.quarantineOnce, hp.quarantineExact, hp.guards, hp.setting, ht.holder, ht.held,
      fun sl => (ht.housed sl).occupied, fun sl => (ht.housed sl).vacant, fun l => (ht.equipped l).needs,
      fun l => (ht.equipped l).listens, htap.target, htap.source⟩

theorem Pooled.ofSame {v w : Lsv} (h : Pooled v) (slots : w.slots = v.slots) (freeList : w.freeList = v.freeList)
    (quarantine : w.quarantine = v.quarantine) (setting : w.guardSetting = v.guardSetting) : Pooled w := by
  refine ⟨?_, ?_, ?_, ?_, ?_, ?_⟩
  · rw [freeList]; exact h.freeOnce
  · rw [freeList, slots]; exact h.freeExact
  · rw [quarantine]; exact h.quarantineOnce
  · rw [quarantine, slots]; exact h.quarantineExact
  · rw [slots]; exact h.guards
  · rw [setting]; exact h.setting

/-- Changes of the records that leave the slots and the tap. -/
theorem SlotsExact.ofLeases {v w : Lsv} (h : SlotsExact v) (slots : w.slots = v.slots) (freeList : w.freeList = v.freeList)
    (quarantine : w.quarantine = v.quarantine) (setting : w.guardSetting = v.guardSetting) (tap : w.tap = v.tap)
    (leases : ∀ l : LeaseNo, SameTenant v.leases[l] w.leases[l]) : SlotsExact w :=
  ⟨h.pooled.ofSame slots freeList quarantine setting,
    h.tenanted.ofSame leases fun sl => by rw [slots]; exact .refl _,
    h.tapped.ofSame tap (fun sl _ hst => by rw [slots]; exact hst) fun l _ _ hl => (leases l).live.trans hl⟩

theorem SlotsExact.setLease {v : Lsv} (h : SlotsExact v) {l : LeaseNo} {r : Lease} (hr : SameTenant v.leases[l] r) :
    SlotsExact (v.setLease l r) :=
  h.ofLeases rfl rfl rfl rfl rfl fun j => by
    rw [Lsv.setLease_leases, upd_get]
    split
    · next hj => subst hj; exact hr
    · exact .refl _

/-! ### What the slot operations leave of the slots -/

theorem toPool_slots (v : Lsv) (sl : SlotNo) : ∃ r, (v.toPool sl).slots = upd v.slots sl r ∧ VacantSlot r := by
  unfold Lsv.toPool
  split
  · exact ⟨SlotRec.free, rfl, nofun, rfl, rfl⟩
  · exact ⟨_, rfl, nofun, rfl, rfl⟩

theorem giveUp_slots (v : Lsv) (sl : SlotNo) : ∃ r, (v.giveUp sl).slots = upd v.slots sl r ∧ VacantSlot r := by
  unfold Lsv.giveUp
  split
  · exact ⟨SlotRec.reserved, rfl, nofun, rfl, rfl⟩
  · exact toPool_slots v sl

theorem takeSlot_slots (v : Lsv) (sl : SlotNo) (l : LeaseNo) : ∃ home,
    (v.takeSlot sl l).slots = upd v.slots sl { state := .held, home := some home, holder := some l, guard := none } := by
  unfold Lsv.takeSlot
  split
  · exact ⟨_, rfl⟩
  · exact ⟨_, rfl⟩

/-- The slots after a lease has left its own: that slot is vacant, the others are as they were. -/
theorem leaveSlot_slots (v : Lsv) (r : Lease) :
    (∀ sl : SlotNo, r.slot = some sl → VacantSlot (v.leaveSlot false r).slots[sl]) ∧
      ∀ sl : SlotNo, r.slot ≠ some sl → (v.leaveSlot false r).slots[sl] = v.slots[sl] := by
  unfold Lsv.leaveSlot
  cases r.slot with
  | none => exact ⟨nofun, fun _ _ => rfl⟩
  | some o =>
    obtain ⟨x, hx, hvacant⟩ := giveUp_slots v o
    simp only [Bool.false_eq_true, if_false, hx]
    refine ⟨fun sl hsl => ?_, fun sl hsl => ?_⟩
    · obtain rfl := Option.some.inj hsl
      rw [upd_get_self]
      exact hvacant
    · exact upd_get_other _ (fun ho => hsl (congrArg some ho)) _

theorem Pooled.leaveSlot {v : Lsv} (h : Pooled v) (r : Lease) (held : ∀ sl, r.slot = some sl → v.slots[sl].state = .held) :
    Pooled (v.leaveSlot false r) := by
  unfold Lsv.leaveSlot
  cases hs : r.slot with
  | none => exact h
  | some o =>
    simp only [Bool.false_eq_true, if_false]
    exact h.giveUp (held o hs)

/-! ### Retirement -/

theorem retire_pooled {v : Lsv} (sc : Option Scope) (cause : RetireCause) (keep : Bool) (l : LeaseNo)
    (h : Pooled (v.leaveSlot keep v.leases[l])) : Pooled (v.retire sc cause keep l).lsv := by
  rw [retire_frame]
  exact h.ofSame rfl rfl rfl rfl

theorem SlotsExact.retire {v : Lsv} (h : SlotsExact v) (sc : Option Scope) (cause : RetireCause) (l : LeaseNo) :
    SlotsExact (v.retire sc cause false l).lsv := by
  have hheld : ∀ sl, v.leases[l].slot = some sl → v.slots[sl].state = .held := fun sl hsl => (h.tenanted.held l sl hsl).1
  obtain ⟨hvacated, hothers⟩ := leaveSlot_slots v v.leases[l]
  refine ⟨retire_pooled sc cause false l (h.pooled.leaveSlot _ hheld), h.tenanted.left (retire_dead v sc cause false l)
    (retire_slot_none v sc cause false l) (fun j hj => (retire_steady v sc cause false hj).toAlike.sameTenant) ?_ ?_,
    h.tapped.left (retire_tap v sc cause false l) (fun sl hsl => ?_) fun j hj hl => ?_⟩
  · rw [retire_slots]
    exact hvacated
  · rw [retire_slots]
    exact hothers
  · rw [retire_slots, hothers sl]
    · exact hsl
    · intro hslot
      rw [hheld sl hslot] at hsl
      cases hsl
  · exact (retire_steady v sc cause false hj).live.trans hl

/-! ### Creation -/

theorem create_pooled {v : Lsv} (sc : Option Scope) (fault : Bool) (ns : NewSlot) (r : Lease) (n : LeaseNo)
    (h : Pooled (v.joinSlot ns n)) : Pooled (v.create sc fault ns r n).1 := by
  rw [create_frame]
  exact h.ofSame rfl rfl rfl rfl

theorem create_slot (v : Lsv) (sc : Option Scope) (fault : Bool) (ns : NewSlot) (r : Lease) (n : LeaseNo) :
    (v.create sc fault ns r n).1.leases[n].slot = ns.slot :=
  (create_steady_self v sc fault ns r n).slot

theorem create_kind (v : Lsv) (sc : Option Scope) (fault : Bool) (ns : NewSlot) (r : Lease) (n : LeaseNo) :
    (v.create sc fault ns r n).1.leases[n].kind = r.kind :=
  (create_steady_self v sc fault ns r n).kind

/-- A lease without a slot: a listener (R4). -/
theorem SlotsExact.createAbsent {v : Lsv} (h : SlotsExact v) (sc : Option Scope) (fault : Bool) {r : Lease} {n : LeaseNo}
    (hn : v.leases[n].live = false) (hk : r.kind = .listen) : SlotsExact (v.create sc fault .absent r n).1 := by
  have hslots : (v.create sc fault .absent r n).1.slots = v.slots := create_slots v sc fault .absent r n
  have hslot : (v.create sc fault .absent r n).1.leases[n].slot = none := create_slot v sc fault .absent r n
  refine ⟨create_pooled sc fault .absent r n h.pooled, h.tenanted.entered hn (create_live v sc fault .absent r n) ?_
    (fun j hj => (create_steady v sc fault .absent r hj).toAlike.sameTenant) (fun sl hsl => ?_) (fun sl _ => by rw [hslots]),
    h.tapped.ofSame (create_tap ..) (fun sl _ hst => by rw [hslots]; exact hst) fun l _ _ hl => ?_⟩
  · exact ⟨fun _ hx => absurd ((create_kind ..).trans hk) hx, fun _ _ => hslot⟩
  · rw [hslot] at hsl
    cases hsl
  · have hln : l ≠ n := by
      rintro rfl
      rw [hl] at hn
      cases hn
    exact (create_steady v sc fault .absent r hln).live.trans hl

/-- A lease with a slot that can be taken (R25, R101). -/
theorem SlotsExact.createTaken {v : Lsv} (h : SlotsExact v) (sc : Option Scope) (fault : Bool) {sl : SlotNo} {r : Lease}
    {n : LeaseNo} (hn : v.leases[n].live = false) (hk : r.kind ≠ .listen) (takeable : Takeable v sl) :
    SlotsExact (v.create sc fault (.taken sl) r n).1 := by
  have hstate := h.pooled.takeable takeable
  obtain ⟨home, htaken⟩ := takeSlot_slots v sl n
  have hslots : (v.create sc fault (.taken sl) r n).1.slots = _ := (create_slots v sc fault (.taken sl) r n).trans htaken
  have hslot : (v.create sc fault (.taken sl) r n).1.leases[n].slot = some sl := create_slot v sc fault (.taken sl) r n
  refine ⟨create_pooled sc fault _ r n (h.pooled.takeSlot (hstate.imp_right And.left) n),
    h.tenanted.entered hn (create_live v sc fault (.taken sl) r n) ?_
      (fun j hj => (create_steady v sc fault (.taken sl) r hj).toAlike.sameTenant) (fun sl' hsl => ?_) (fun sl' hsl => ?_),
    h.tapped.ofSame (create_tap ..) (fun sl' htarget hst => ?_) fun l _ _ hl => ?_⟩
  · exact ⟨fun _ _ => by rw [hslot]; rfl, fun _ hx => absurd ((create_kind ..).symm.trans hx) hk⟩
  · obtain rfl := Option.some.inj (hslot.symm.trans hsl)
    rw [hslots, upd_get_self]
    refine ⟨fun hheld => ?_, rfl, rfl, rfl⟩
    rw [hheld] at hstate
    obtain hfree | ⟨hreserved, -⟩ := hstate
    · cases hfree
    · cases hreserved
  · rw [hslots, upd_get_other]
    rintro rfl
    exact hsl hslot
  · have hne : sl ≠ sl' := by
      rintro rfl
      obtain hfree | ⟨-, hnot⟩ := hstate
      · rw [hfree] at hst
        cases hst
      · exact hnot htarget
    rw [hslots, upd_get_other _ hne]
    exact hst
  · have hln : l ≠ n := by
      rintro rfl
      rw [hl] at hn
      cases hn
    exact (create_steady v sc fault (.taken sl) r hln).live.trans hl

/-- A talker's slot that passes to the talker that preempts it (R58). -/
theorem SlotsExact.preempted {v : Lsv} (h : SlotsExact v) (sc : Option Scope) (fault : Bool) {r : Lease} {n t : LeaseNo}
    {sl : SlotNo} (hn : v.leases[n].live = false) (hk : r.kind = .talk) (slot : v.leases[t].slot = some sl) :
    SlotsExact ((v.retire sc .preempted true t).lsv.create sc fault (.passed sl) r n).1 := by
  have hheld := (h.tenanted.held t sl slot).1
  have hnt : n ≠ t := by
    rintro rfl
    rw [h.tenanted.live_of_slot slot] at hn
    cases hn
  have hstay : v.leaveSlot true v.leases[t] = v := leaveSlot_stays (.inr rfl)
  have hretired : (v.retire sc .preempted true t).lsv.slots = v.slots := by rw [retire_slots, hstay]
  have hslots : ((v.retire sc .preempted true t).lsv.create sc fault (.passed sl) r n).1.slots =
      upd v.slots sl { v.slots[sl] with holder := some n } := by
    rw [create_slots]
    simp only [Lsv.joinSlot, Lsv.setSlot, hretired]
  have hother (j : LeaseNo) (hjt : j ≠ t) (hjn : j ≠ n) :
      Alike v.leases[j] ((v.retire sc .preempted true t).lsv.create sc fault (.passed sl) r n).1.leases[j] :=
    (retire_steady v sc .preempted true hjt).toAlike.trans (create_steady _ sc fault (.passed sl) r hjn).toAlike
  have hgone : Alike (v.retire sc .preempted true t).lsv.leases[t]
      ((v.retire sc .preempted true t).lsv.create sc fault (.passed sl) r n).1.leases[t] :=
    (create_steady _ sc fault (.passed sl) r (Ne.symm hnt)).toAlike
  refine ⟨create_pooled sc fault _ r n ?_, h.tenanted.passed slot hn (hgone.live.trans (retire_dead ..))
    (hgone.slot.trans (retire_slot_none ..)) (create_live ..) (create_slot ..) ?_
    (fun j hjt hjn => (hother j hjt hjn).sameTenant) hslots,
    h.tapped.left (l := t) ((create_tap ..).trans (retire_tap ..)) (fun sl' hst => ?_) fun j hjt hl => ?_⟩
  · refine (retire_pooled sc .preempted true t (by rw [hstay]; exact h.pooled)).setSlot ?_ ?_
    · rw [hretired]
      exact .ofHeld hheld
    · rw [hretired]
      exact .ofHeld hheld
  · rw [create_kind, hk]
    exact nofun
  · have hne : sl ≠ sl' := by
      rintro rfl
      rw [hheld] at hst
      cases hst
    rw [hslots, upd_get_other _ hne]
    exact hst
  · have hjn : j ≠ n := by
      rintro rfl
      rw [hl] at hn
      cases hn
    exact (hother j hjt hjn).live.trans hl

/-! ### A move (R42) -/

/-- The slots after a move: the new slot is HELD by the lease, the old one vacant, the others as they were. -/
theorem moveLease_slots {v : Lsv} (l : LeaseNo) {sl : SlotNo} (hne : v.leases[l].slot ≠ some sl) :
    (∃ home, (v.moveLease l sl).slots[sl] = { state := .held, home := some home, holder := some l, guard := none }) ∧
      (∀ o : SlotNo, v.leases[l].slot = some o → VacantSlot (v.moveLease l sl).slots[o]) ∧
        ∀ o : SlotNo, o ≠ sl → v.leases[l].slot ≠ some o → (v.moveLease l sl).slots[o] = v.slots[o] := by
  obtain ⟨home, htaken⟩ := takeSlot_slots v sl l
  obtain ⟨hvacated, hothers⟩ :=
    leaveSlot_slots ((v.takeSlot sl l).setLease l { v.leases[l] with slot := some sl }) v.leases[l]
  refine ⟨⟨home, ?_⟩, hvacated, fun o hosl ho => ?_⟩
  · rw [Lsv.moveLease, hothers sl hne, Lsv.setLease_slots, htaken, upd_get_self]
  · rw [Lsv.moveLease, hothers o ho, Lsv.setLease_slots, htaken, upd_get_other _ (Ne.symm hosl)]

theorem Pooled.moveLease {v : Lsv} (h : Pooled v) {l : LeaseNo} {sl : SlotNo} (takeable : Takeable v sl)
    (held : ∀ o, v.leases[l].slot = some o → v.slots[o].state = .held) : Pooled (v.moveLease l sl) := by
  have hstate := h.takeable takeable
  obtain ⟨home, htaken⟩ := takeSlot_slots v sl l
  have htook : Pooled ((v.takeSlot sl l).setLease l { v.leases[l] with slot := some sl }) :=
    (h.takeSlot (hstate.imp_right And.left) l).ofSame rfl rfl rfl rfl
  refine htook.leaveSlot _ fun o ho => ?_
  rw [Lsv.setLease_slots, htaken, upd_get]
  split
  · rfl
  · exact held o ho

/-- A move's tables with the lease off both slots: it has left the old one and not yet taken the new one. -/
def betweenSlots (v : Lsv) (l : LeaseNo) (sl : SlotNo) : Lsv :=
  { v.moveLease l sl with
    leases := upd v.leases l { v.leases[l] with state := .free, slot := none }
    slots := upd (v.moveLease l sl).slots sl v.slots[sl] }

theorem betweenSlots_lease_self (v : Lsv) (l : LeaseNo) (sl : SlotNo) :
    (betweenSlots v l sl).leases[l] = { v.leases[l] with state := .free, slot := none } := upd_get_self ..

theorem betweenSlots_lease_other (v : Lsv) {l j : LeaseNo} (sl : SlotNo) (h : j ≠ l) :
    (betweenSlots v l sl).leases[j] = v.leases[j] := upd_get_other _ (Ne.symm h) _

theorem betweenSlots_slot_self (v : Lsv) (l : LeaseNo) (sl : SlotNo) : (betweenSlots v l sl).slots[sl] = v.slots[sl] :=
  upd_get_self ..

theorem betweenSlots_slot_other (v : Lsv) (l : LeaseNo) {sl o : SlotNo} (h : sl ≠ o) :
    (betweenSlots v l sl).slots[o] = (v.moveLease l sl).slots[o] := upd_get_other _ h _

/-- Off its old slot, before it takes the new one, the lease counts as ended. -/
theorem Tenanted.between {v : Lsv} (h : Tenanted v) {l : LeaseNo} {sl : SlotNo} (hne : v.leases[l].slot ≠ some sl) :
    Tenanted (betweenSlots v l sl) := by
  obtain ⟨-, hvacated, hothers⟩ := moveLease_slots l hne
  refine h.left (l := l) ?_ ?_ (fun j hj => ?_) (fun o ho => ?_) fun o ho => ?_
  · rw [betweenSlots_lease_self]
    rfl
  · rw [betweenSlots_lease_self]
  · rw [betweenSlots_lease_other v sl hj]
    exact .refl _
  · have hosl : sl ≠ o := by
      rintro rfl
      exact hne ho
    rw [betweenSlots_slot_other v l hosl]
    exact hvacated o ho
  · by_cases hosl : sl = o
    · subst hosl
      exact betweenSlots_slot_self v l sl
    · rw [betweenSlots_slot_other v l hosl]
      exact hothers o (Ne.symm hosl) ho

theorem SlotsExact.moveLease {v : Lsv} (h : SlotsExact v) {l : LeaseNo} {sl : SlotNo} (live : v.leases[l].live = true)
    (kind : v.leases[l].kind ≠ .listen) (takeable : Takeable v sl) : SlotsExact (v.moveLease l sl) := by
  have hstate := h.pooled.takeable takeable
  have hnot : v.slots[sl].state ≠ .held := by
    obtain hfree | ⟨hreserved, -⟩ := hstate
    · rw [hfree]; exact nofun
    · rw [hreserved]; exact nofun
  have hne : v.leases[l].slot ≠ some sl := h.tenanted.not_held hnot l
  obtain ⟨⟨home, hnew⟩, hvacated, hothers⟩ := moveLease_slots l hne
  have hself : (v.moveLease l sl).leases[l] = { v.leases[l] with slot := some sl } := by
    rw [moveLease_leases, upd_get_self]
  have hother (j : LeaseNo) (hj : j ≠ l) : (v.moveLease l sl).leases[j] = v.leases[j] := by
    rw [moveLease_leases, upd_get_other _ (Ne.symm hj)]
  refine ⟨h.pooled.moveLease takeable fun o ho => (h.tenanted.held l o ho).1, ?tenanted,
    h.tapped.ofSame (moveLease_tap v l sl) (fun o htarget hst => ?target) fun j _ _ hl => ?source⟩
  case tenanted =>
    refine (h.tenanted.between hne).entered (n := l) (by rw [betweenSlots_lease_self]; rfl) (by rw [hself]; exact live) ?_
      (fun j hj => ?_) (fun o ho => ?_) fun o ho => ?_
    · rw [hself]
      exact ⟨fun _ _ => rfl, fun _ hx => absurd hx kind⟩
    · rw [hother j hj, betweenSlots_lease_other v sl hj]
      exact .refl _
    · rw [hself] at ho
      obtain rfl := Option.some.inj ho
      rw [betweenSlots_slot_self, hnew]
      exact ⟨hnot, rfl, rfl, rfl⟩
    · rw [hself] at ho
      exact (betweenSlots_slot_other v l fun hosl => ho (congrArg some hosl)).symm
  case target =>
    have hosl : o ≠ sl := by
      rintro rfl
      obtain hfree | ⟨-, hx⟩ := hstate
      · rw [hfree] at hst
        cases hst
      · exact hx htarget
    rw [hothers o hosl]
    · exact hst
    · intro ho
      rw [(h.tenanted.held l o ho).1] at hst
      cases hst
  case source =>
    by_cases hj : j = l
    · subst hj
      rw [hself]
      exact hl
    · rw [hother j hj]
      exact hl

end Sys2Proof.Spec
end

section
/-! PROOF. The remaining changes of the slots, and O59. -/

namespace Sys2Proof.Spec

open Sys2Proof.Machine

/-- One slot record replaced by another with the same holder, the records and the tap as they were. -/
theorem SlotsExact.ofSlot {v w : Lsv} (h : SlotsExact v) {sl : SlotNo} {r : SlotRec} (pooled : Pooled w)
    (leases : w.leases = v.leases) (tap : w.tap = v.tap) (slots : w.slots = upd v.slots sl r)
    (holder : SameHolder v.slots[sl] r) (target : TapTarget v sl → v.slots[sl].state = .reserved → r.state = .reserved) :
    SlotsExact w := by
  refine ⟨pooled, h.tenanted.ofSame (fun l => by rw [leases]; exact .refl _) fun o => ?_,
    h.tapped.ofSame tap (fun o htarget hst => ?_) fun l _ _ hl => by rw [leases]; exact hl⟩
  · rw [slots, upd_get]
    split
    · next ho => subst ho; exact holder
    · exact .refl _
  · rw [slots, upd_get]
    split
    · next ho => subst ho; exact target htarget hst
    · exact hst

theorem VacantSlot.reserved : VacantSlot SlotRec.reserved := ⟨nofun, rfl, rfl⟩

theorem SlotsExact.reserveSlot {v : Lsv} (h : SlotsExact v) (sl : SlotNo) : SlotsExact (v.reserveSlot sl) := by
  obtain ⟨hleases, -, -, -, htap⟩ := reserveSlot_frame v sl
  have hpooled := h.pooled.reserveSlot sl
  cases hst : v.slots[sl].state with
  | free | quarantine =>
    have hvacant := h.tenanted.vacant (sl := sl) (by rw [hst]; exact nofun)
    exact h.ofSlot hpooled hleases htap (sl := sl) (r := SlotRec.reserved) (by simp only [Lsv.reserveSlot, hst]; rfl)
      (hvacant.sameHolder .reserved) fun _ _ => rfl
  | reserved =>
    have hsame : v.reserveSlot sl = v := by simp only [Lsv.reserveSlot, hst]
    rw [hsame]
    exact h
  | held =>
    have hhome := ((h.tenanted.housed sl).occupied hst).2
    exact h.ofSlot hpooled hleases htap (sl := sl) (r := { v.slots[sl] with home := some .reserved })
      (by simp only [Lsv.reserveSlot, hst, Lsv.setSlot])
      ⟨.rfl, rfl, iff_of_false nofun fun hn => Option.isSome_iff_ne_none.mp hhome hn⟩ fun _ hx => nomatch hst.symm.trans hx

theorem SlotsExact.releaseSlot {v : Lsv} (h : SlotsExact v) {sl : SlotNo}
    (free : v.slots[sl].state = .reserved → ¬ TapTarget v sl) : SlotsExact (v.releaseSlot sl) := by
  obtain ⟨hleases, -, -, -, htap⟩ := releaseSlot_frame v sl
  have hpooled := h.pooled.releaseSlot sl
  cases hst : v.slots[sl].state with
  | reserved =>
    have hvacant := h.tenanted.vacant (sl := sl) (by rw [hst]; exact nofun)
    obtain ⟨r, hr, hnew⟩ := toPool_slots v sl
    exact h.ofSlot hpooled hleases htap (by rw [Lsv.releaseSlot_reserved hst]; exact hr) (hvacant.sameHolder hnew)
      fun htarget => absurd htarget (free hst)
  | free =>
    rw [Lsv.releaseSlot_pooled (.inl hst)]
    exact h
  | quarantine =>
    rw [Lsv.releaseSlot_pooled (.inr hst)]
    exact h
  | held =>
    have hhome := ((h.tenanted.housed sl).occupied hst).2
    exact h.ofSlot hpooled hleases htap (sl := sl) (r := { v.slots[sl] with home := some .pool })
      (by rw [Lsv.releaseSlot_held hst])
      ⟨.rfl, rfl, iff_of_false nofun fun hn => Option.isSome_iff_ne_none.mp hhome hn⟩ fun _ hx => nomatch hst.symm.trans hx

theorem SlotsExact.phase {v : Lsv} (h : SlotsExact v) : SlotsExact v.quarantinePhase := by
  refine ⟨h.pooled.phase, h.tenanted.ofSame (fun l => .refl _) fun sl => ?_,
    h.tapped.ofSame rfl (fun sl _ hst => ?_) fun l _ _ hl => hl⟩
  · rw [quarantinePhase_slot]
    split
    · next hq =>
      have hvacant := h.tenanted.vacant (sl := sl) (by rw [(h.pooled.quarantineExact sl).mp hq]; exact nofun)
      split
      · exact hvacant.sameHolder ⟨nofun, rfl, rfl⟩
      · exact ⟨.rfl, rfl, .rfl⟩
    · exact .refl _
  · rw [quarantinePhase_slot, if_neg]
    · exact hst
    · intro hq
      rw [(h.pooled.quarantineExact sl).mp hq] at hst
      cases hst

theorem SlotsExact.change {ports : Vector Port 4} {v w : Lsv} (h : SlotsExact v) (hc : TableChange ports v w) :
    SlotsExact w := by
  induction hc with
  | same v => exact h
  | trans _ _ ih ih' => exact ih' (ih h)
  | record bound alike state notices => exact h.setLease alike.sameTenant
  | retired sc cause bound => exact h.retire sc cause _
  | @purged v l dead =>
    have hset := h.setLease (l := l) (r := Lease.cleared) ⟨dead.symm, (h.tenanted.slot_of_dead dead).symm, fun hl =>
      nomatch dead.symm.trans hl⟩
    exact hset.ofLeases rfl rfl rfl rfl rfl fun _ => .refl _
  | @served v l rest head =>
    have hset := h.setLease (l := l) (r := v.leases[l].noticesTaken) ?_
    · exact hset.ofLeases rfl rfl rfl rfl rfl fun _ => .refl _
    · unfold Lease.noticesTaken
      split
      · next hst =>
        have hdead : v.leases[l].live = false := by rw [Lease.live, hst]
        exact ⟨hdead.symm, (h.tenanted.slot_of_dead hdead).symm, fun hl => nomatch hdead.symm.trans hl⟩
      · exact ⟨rfl, rfl, fun _ => rfl⟩
  | @created v sc ns r n opens admits =>
    have hdead := dead_of_free opens.free
    by_cases hk : r.kind = .listen
    · rw [admits.absent hk]
      exact h.createAbsent sc _ hdead hk
    · obtain ⟨sl, hsl, htakeable⟩ := admits.taken hk
      rw [hsl]
      exact h.createTaken sc _ hdead hk htakeable
  | preempted sc opens talk talker slot => exact h.preempted sc _ (dead_of_free opens.free) talk slot
  | @displaced v sc r n b opens listen victim =>
    refine (h.retire sc .preempted b).createAbsent sc _ ?_ listen
    rw [← Bool.not_eq_true, retire_live_iff]
    exact fun hx => not_free_of_live hx.2 opens.free
  | moved live kind takeable => exact h.moveLease live kind takeable
  | settings floors small =>
    have hpooled := h.pooled
    exact ⟨⟨hpooled.freeOnce, hpooled.freeExact, hpooled.quarantineOnce, hpooled.quarantineExact, hpooled.guards, small⟩,
      h.tenanted.ofSame (fun _ => .refl _) fun _ => .refl _, ⟨h.tapped.target, h.tapped.source⟩⟩
  | tap target source =>
    exact ⟨h.pooled.ofSame rfl rfl rfl rfl, h.tenanted.ofSame (fun _ => .refl _) fun _ => .refl _, ⟨target, source⟩⟩
  | group talker listeners cap => exact h.ofLeases rfl rfl rfl rfl rfl fun _ => .refl _
  | reserved sl => exact h.reserveSlot sl
  | released free => exact h.releaseSlot free
  | phase => exact h.phase

/-- Turns leave the slots and the tap. -/
theorem SlotsExact.changeAll {v : Lsv} (h : SlotsExact v) (f : Lease → LeaseState) (k : Notice) (ls : List LeaseNo)
    (alike : ∀ l : LeaseNo, Alike v.leases[l] (ls.foldl (changeLease f k) v).leases[l]) :
    SlotsExact (ls.foldl (changeLease f k) v) := by
  refine h.ofLeases ?_ ?_ ?_ ?_ ?_ fun l => (alike l).sameTenant <;> rw [changeAll_frame]

theorem initial_slot (sl : SlotNo) : Lsv.initial.slots[sl] = SlotRec.free := Vector.getElem_replicate sl.isLt

theorem SlotsExact.initial : SlotsExact Lsv.initial := by
  have hnone (l : LeaseNo) : Lsv.initial.leases[l].slot = none := by rw [initial_lease]; rfl
  refine ⟨⟨List.nodup_finRange 128, fun sl => ?_, List.nodup_nil, fun sl => ?_, fun sl hsl => ?_, by decide⟩,
    ⟨fun sl l hs => ?_, fun l sl hs => ?_, fun sl => ?_, fun l => .ofDead (by rw [initial_lease]; rfl)⟩, ⟨nofun, nofun⟩⟩
  · rw [initial_slot]
    exact iff_of_true (List.mem_finRange sl) rfl
  · rw [initial_slot]
    exact iff_of_false List.not_mem_nil nofun
  · rw [initial_slot] at hsl
    cases hsl
  · rw [initial_slot] at hs
    cases hs
  · rw [hnone] at hs
    cases hs
  · rw [initial_slot]
    exact ⟨nofun, fun _ => ⟨rfl, rfl⟩⟩

theorem SlotsExact.partChange {v w : Lsv} {ports ports' : Vector Port 4} (h : SlotsExact v)
    (hc : PartChange v ports w ports') : SlotsExact w := by
  cases hc with
  | tables change lines => exact h.change change
  | @conditioned p => exact h.changeAll _ _ _ (conditionPort_alike v p)
  | @restored p => exact h.changeAll _ _ _ (restorePort_alike v p)
  | configured => exact h
  | initial => exact .initial

/-- Settles O59: each change keeps slots, holders, lists and tap exact. -/
theorem slotsAndListsExact : Obligations.SlotsAndListsExact :=
  fun _ _ h hstep => (slotted_iff _).mpr (((slotted_iff _).mp h).partChange (step_changes hstep))

end Sys2Proof.Spec
end

section
/-! PROOF. Capacities and silent ports (R71, R72, R79, R81, R89, R97): what a change of a port keeps, and each row as such changes. -/

namespace Sys2Proof.Spec

open Sys2Proof.Machine

/-! ### One port -/

/-- A port that does not answer is silent and empty, and one whose format is not the format `f` in force has nothing in progress. -/
structure ShutPort (f : Format) (x : Port) : Prop where
  silent : x.lpi.answers = false → x.cch.Idle ∧ x.cch.queue = []
  reformatted : f ≠ x.lpi.format → x.cch.Idle

/-- The port keeps its capacities and its silence as it becomes `x'`, with the format in force becoming `f'`. -/
structure PortChange (f : Format) (x : Port) (f' : Format) (x' : Port) : Prop where
  bounded : x.Bounded → x'.Bounded
  shut : ShutPort f x → ShutPort f' x'

theorem PortChange.refl (f : Format) (x : Port) : PortChange f x f x := ⟨id, id⟩

theorem PortChange.trans {f g h : Format} {x y z : Port} (a : PortChange f x g y) (b : PortChange g y h z) :
    PortChange f x h z := ⟨b.bounded ∘ a.bounded, b.shut ∘ a.shut⟩

/-- The line port changes, not into one that falls silent, and keeps its format. -/
theorem PortChange.lpi (f : Format) (x : Port) {l : Lpi} (answers : l.answers = false → x.lpi.answers = false)
    (format : l.format = x.lpi.format) : PortChange f x f { x with lpi := l } :=
  ⟨fun h => ⟨h.queue, h.buffers, h.counters, h.committed, h.excess⟩,
    fun h => ⟨fun hs => h.silent (answers hs), fun hf => h.reformatted (format ▸ hf)⟩⟩

/-- The meter changes within its buckets. -/
theorem PortChange.cmt (f : Format) (x : Port) {m : Cmt}
    (buckets : x.cmt.committed ≤ x.cmt.cbs → x.cmt.excess ≤ x.cmt.ebs → m.committed ≤ m.cbs ∧ m.excess ≤ m.ebs) :
    PortChange f x f { x with cmt := m } :=
  ⟨fun h => ⟨h.queue, h.buffers, h.counters, (buckets h.committed h.excess).1, (buckets h.committed h.excess).2⟩,
    fun h => ⟨h.silent, h.reformatted⟩⟩

/-- The Claim Channel changes where the port answers and its format is in force: nothing is asked of its silence then. -/
theorem PortChange.answering {f : Format} {x : Port} {c : Cch} (answers : x.lpi.answers = true) (format : f = x.lpi.format)
    (queue : x.cch.queue.length ≤ 8 → c.queue.length ≤ 8)
    (buffers : (x.cch.bufB.isSome → x.cch.bufA.isSome) → c.bufB.isSome → c.bufA.isSome)
    (counters : x.cch.counters.Bounded → c.counters.Bounded) : PortChange f x f { x with cch := c } :=
  ⟨fun h => ⟨queue h.queue, buffers h.buffers, counters h.counters, h.committed, h.excess⟩,
    fun _ => ⟨fun hs => (nomatch answers.symm.trans hs), fun hf => absurd format hf⟩⟩

/-- Queue and counters alone change, and the queue not of a port that does not answer. -/
theorem PortChange.queued {f : Format} {x : Port} {q : List Reply} {k : Counters}
    (silent : x.lpi.answers = false → x.cch.queue = [] → q = []) (queue : x.cch.queue.length ≤ 8 → q.length ≤ 8)
    (counters : x.cch.counters.Bounded → k.Bounded) :
    PortChange f x f { x with cch := { x.cch with queue := q, counters := k } } :=
  ⟨fun h => ⟨queue h.queue, h.buffers, counters h.counters, h.committed, h.excess⟩,
    fun h => ⟨fun hs => by
      obtain ⟨⟨hhunt, hA, hB, hsent⟩, hq⟩ := h.silent hs
      exact ⟨⟨hhunt, hA, hB, hsent⟩, silent hs hq⟩,
      fun hf => by
        obtain ⟨hhunt, hA, hB, hsent⟩ := h.reformatted hf
        exact ⟨hhunt, hA, hB, hsent⟩⟩⟩

/-- The emptying of R78, R80 and R85, whatever becomes of the line port. -/
theorem PortChange.emptied (f : Format) (x : Port) (l : Lpi) : PortChange f x f { x with lpi := l, cch := x.cch.emptied } :=
  ⟨fun h => ⟨Nat.zero_le 8, nofun, h.counters, h.committed, h.excess⟩,
    fun _ => ⟨fun _ => ⟨⟨rfl, rfl, rfl, rfl⟩, rfl⟩, fun _ => ⟨rfl, rfl, rfl, rfl⟩⟩⟩

theorem bounded_zero : Counters.zero.Bounded :=
  ⟨Nat.zero_le _, Nat.zero_le _, Nat.zero_le _, Nat.zero_le _, Nat.zero_le _, Nat.zero_le _, Nat.zero_le _⟩

/-- A Claim Channel at its initial values, with a meter within its buckets (R90). -/
theorem PortChange.fresh {f f' : Format} {x x' : Port} (cch : x'.cch = Cch.initial)
    (buckets : x.Bounded → x'.cmt.committed ≤ x'.cmt.cbs ∧ x'.cmt.excess ≤ x'.cmt.ebs) : PortChange f x f' x' := by
  refine ⟨fun h => ⟨?_, ?_, ?_, (buckets h).1, (buckets h).2⟩, fun _ => ⟨fun _ => ?_, fun _ => ?_⟩⟩ <;> rw [cch]
  · exact Nat.zero_le 8
  · exact nofun
  · exact bounded_zero
  · exact ⟨⟨rfl, rfl, rfl, rfl⟩, rfl⟩
  · exact ⟨rfl, rfl, rfl, rfl⟩

/-- A CLOSED port is configured: it is silent, so that its format can change (R71, R126). -/
theorem PortChange.closed (f : Format) {x : Port} (closed : x.lpi.admin = .closed) (l : Lpi) :
    PortChange f x f { x with lpi := l } := by
  have hanswers : x.lpi.answers = false := by rw [Lpi.answers, closed]; rfl
  exact ⟨fun h => ⟨h.queue, h.buffers, h.counters, h.committed, h.excess⟩,
    fun h => ⟨fun _ => h.silent hanswers, fun _ => (h.silent hanswers).1⟩⟩

/-- A port that leaves CLOSED, with its assembly in HUNT (R112). -/
theorem PortChange.opened (f : Format) {x : Port} (closed : x.lpi.admin = .closed) (l : Lpi) :
    PortChange f x f { x with lpi := l, cch := { x.cch with assembly := .hunt } } := by
  have hanswers : x.lpi.answers = false := by rw [Lpi.answers, closed]; rfl
  refine ⟨fun h => ⟨h.queue, h.buffers, h.counters, h.committed, h.excess⟩, fun h => ?_⟩
  obtain ⟨⟨-, hA, hB, hsent⟩, hq⟩ := h.silent hanswers
  exact ⟨fun _ => ⟨⟨rfl, hA, hB, hsent⟩, hq⟩, fun _ => ⟨rfl, hA, hB, hsent⟩⟩

/-- The format of the port comes into force at the start of a frame (R114). -/
theorem PortChange.frame (f : Format) (x : Port) : PortChange f x x.lpi.format x :=
  ⟨id, fun h => ⟨h.silent, fun hf => absurd rfl hf⟩⟩

/-! ### Counters (R89) -/

theorem bounded_addFragment {k : Counters} (h : k.Bounded) : k.addFragment.Bounded :=
  ⟨h.checkErr, saturate_le _, h.overrun, h.refused, h.rate, h.tableFull, h.replyLost⟩

theorem bounded_addCheckErr {k : Counters} (h : k.Bounded) : k.addCheckErr.Bounded :=
  ⟨saturate_le _, h.fragment, h.overrun, h.refused, h.rate, h.tableFull, h.replyLost⟩

theorem bounded_addOverrun {k : Counters} (h : k.Bounded) : k.addOverrun.Bounded :=
  ⟨h.checkErr, h.fragment, saturate_le _, h.refused, h.rate, h.tableFull, h.replyLost⟩

theorem bounded_addRefusal {k : Counters} (h : k.Bounded) (r : Reason) : (k.addRefusal r).Bounded := by
  refine ⟨h.checkErr, h.fragment, h.overrun, saturate_le _, ?_, ?_, h.replyLost⟩
  · unfold Counters.addRefusal
    dsimp only
    split
    · exact saturate_le _
    · exact h.rate
  · unfold Counters.addRefusal
    dsimp only
    split
    · exact saturate_le _
    · exact h.tableFull

/-! ### The Claim Channel (R75 to R82) -/

/-- What a received byte keeps of the capacities. -/
structure CchKept (c c' : Cch) : Prop where
  queue : c'.queue = c.queue
  buffers : (c.bufB.isSome → c.bufA.isSome) → c'.bufB.isSome → c'.bufA.isSome
  counters : c.counters.Bounded → c'.counters.Bounded

theorem CchKept.assembly (c : Cch) (a : Assembly) : CchKept c { c with assembly := a } := ⟨rfl, id, id⟩

theorem CchKept.store {c c' : Cch} (h : CchKept c c') (m : Message) : CchKept c (c'.store m) := by
  unfold Cch.store
  split
  · exact ⟨h.queue, fun _ _ => rfl, h.counters⟩
  · next hA =>
    split
    · exact ⟨h.queue, fun _ _ => Option.isSome_iff_ne_none.mpr hA, h.counters⟩
    · exact ⟨h.queue, h.buffers, fun hk => bounded_addOverrun (h.counters hk)⟩

theorem CchKept.completeMessage (c : Cch) (b1 b2 b3 b4 : Byte) : CchKept c (c.completeMessage b1 b2 b3 b4) := by
  unfold Cch.completeMessage
  dsimp only
  split
  · exact (CchKept.assembly c .hunt).store _
  · exact ⟨rfl, id, bounded_addCheckErr⟩

theorem CchKept.receive (c : Cch) (b : Byte) : CchKept c (c.receive b) := by
  unfold Cch.receive
  split
  · unfold Cch.header
    split
    · exact .assembly c _
    · exact ⟨rfl, id, bounded_addFragment⟩
  · unfold Cch.continuation
    split
    · exact ⟨rfl, id, id⟩
    · exact .assembly c _
    · exact .assembly c _
    · exact .completeMessage c ..

theorem PortChange.receive {f : Format} {x : Port} (b : Byte) (answers : x.lpi.answers = true) (format : f = x.lpi.format) :
    PortChange f x f { x with cch := x.cch.receive b } := by
  obtain ⟨hqueue, hbuffers, hcounters⟩ := CchKept.receive x.cch b
  exact .answering answers format (fun h => by rw [hqueue]; exact h) hbuffers hcounters

/-- The transmitter moves on: only a queue that is not empty, of a port that answers, can (R82). -/
theorem PortChange.advance {f : Format} {x : Port} (format : f = x.lpi.format) :
    PortChange f x f { x with cch := x.cch.advance } := by
  unfold Cch.advance
  split
  · exact .refl f x
  · next r rest hq =>
    have hbounded {c : Cch} (hlen : c.queue.length ≤ x.cch.queue.length) (hA : c.bufA = x.cch.bufA)
        (hB : c.bufB = x.cch.bufB) (hk : c.counters = x.cch.counters) : PortChange f x f { x with cch := c } :=
      ⟨fun h => ⟨hlen.trans h.queue, by rw [hA, hB]; exact h.buffers, by rw [hk]; exact h.counters, h.committed, h.excess⟩,
        fun h => ⟨fun hs => (nomatch hq.symm.trans (h.silent hs).2), fun hf => absurd format hf⟩⟩
    split
    · exact hbounded (by rw [hq]; exact Nat.le_succ _) rfl rfl rfl
    · exact hbounded le_rfl rfl rfl rfl

/-! ### Replies placed (R84) -/

theorem unsolicitedRoom_le (serving : Option PortNo) (p : PortNo) : unsolicitedRoom serving p ≤ 8 := by
  unfold unsolicitedRoom
  split <;> decide

theorem PortChange.placeOne (serving : Option PortNo) (ports : Vector Port 4) (u : Unsolicited) (f : Format) (p : PortNo) :
    PortChange f ports[p] f (placeOne serving ports u)[p] := by
  obtain h | ⟨-, ha, ⟨hroom, h⟩ | h⟩ := placeOne_port serving ports u p
  · rw [h]
    exact .refl _ _
  · rw [h]
    refine .queued (fun hs => (nomatch ha.symm.trans hs)) (fun _ => ?_) id
    rw [List.length_append]
    exact hroom.trans_le (unsolicitedRoom_le serving p)
  · rw [h]
    exact .queued (fun _ hq => hq) id fun hk =>
      ⟨hk.checkErr, hk.fragment, hk.overrun, hk.refused, hk.rate, hk.tableFull, saturate_le _⟩

theorem PortChange.placeAll (serving : Option PortNo) (ports : Vector Port 4) (us : List Unsolicited) (f : Format)
    (p : PortNo) : PortChange f ports[p] f (placeAll serving ports us)[p] :=
  placeAll_port (fun x => PortChange f ports[p] f x) serving p
    (fun q u h => h.trans (.placeOne serving q u f p)) us ports (.refl _ _)

end Sys2Proof.Spec
end

section
/-! PROOF. Each row as changes of the ports that keep capacities and silence: the rows of the host commands. -/

namespace Sys2Proof.Spec

open Sys2Proof.Machine

/-- The change from `s` to `t` keeps each port's capacities and silence, the two part-wide counters in range, and the queue of
commands. -/
structure Sound (s t : State) : Prop where
  port : ∀ p : PortNo, PortChange s.psw.formats[p] s.ports[p] t.psw.formats[p] t.ports[p]
  realign : s.hwi.realign ≤ 65535 → t.hwi.realign ≤ 65535
  overrun : s.swt.overrun ≤ 65535 → t.swt.overrun ≤ 65535
  pending : t.pending = s.pending

theorem Sound.trans {s t u : State} (h : Sound s t) (h' : Sound t u) : Sound s u :=
  ⟨fun p => (h.port p).trans (h'.port p), h'.realign ∘ h.realign, h'.overrun ∘ h.overrun, h'.pending.trans h.pending⟩

/-- Nothing of the ports, the formats in force, the HWI and the Sweep Timer changes. -/
theorem Sound.stay {s t : State} (ports : t.ports = s.ports) (psw : t.psw = s.psw) (hwi : t.hwi = s.hwi)
    (swt : t.swt = s.swt) (pending : t.pending = s.pending) : Sound s t :=
  ⟨fun p => by rw [ports, psw]; exact .refl _ _, fun h => by rw [hwi]; exact h, fun h => by rw [swt]; exact h, pending⟩

theorem Sound.refl (s : State) : Sound s s := .stay rfl rfl rfl rfl rfl

/-- The ports alone change, with the formats in force as they were. -/
theorem Sound.ofPorts {s t : State} (port : ∀ p : PortNo, PortChange s.psw.formats[p] s.ports[p] s.psw.formats[p] t.ports[p])
    (formats : t.psw.formats = s.psw.formats) (hwi : t.hwi = s.hwi) (swt : t.swt = s.swt) (pending : t.pending = s.pending) :
    Sound s t :=
  ⟨fun p => by rw [formats]; exact port p, fun h => by rw [hwi]; exact h, fun h => by rw [swt]; exact h, pending⟩

/-- One port is replaced. -/
theorem PortChange.upd {formats : Vector Format 4} {ports : Vector Port 4} {p : PortNo} {x : Port}
    (h : PortChange formats[p] ports[p] formats[p] x) (q : PortNo) :
    PortChange formats[q] ports[q] formats[q] (upd ports p x)[q] := by
  rw [upd_get]
  split
  · next hq => subst hq; exact h
  · exact .refl _ _

theorem Sound.setPort {s : State} {p : PortNo} {x : Port}
    (h : PortChange s.psw.formats[p] s.ports[p] s.psw.formats[p] x) : Sound s (s.setPort p x) :=
  .ofPorts (PortChange.upd h) rfl rfl rfl rfl

/-- A table operation places its replies (R84). -/
theorem Sound.afterTables (s : State) (serving : Option PortNo) (o : TableOp) : Sound s (s.afterTables serving o) :=
  .ofPorts (fun p => by rw [State.afterTables_ports]; exact .placeAll serving s.ports o.out _ p)
    (by rw [State.afterTables_psw]) (State.afterTables_hwi ..) (State.afterTables_swt ..)
    (State.afterTables_pending ..)

theorem Sound.pollServing (s : State) : Sound s s.pollServing :=
  .stay (State.pollServing_ports s) (State.pollServing_psw s) (State.pollServing_hwi s) (State.pollServing_swt s)
    (State.pollServing_pending s)

theorem hostCommand_sound (c : HostCmd) (ph : Phase) {run : State → State} (h : ∀ s, Sound s (run s)) (s : State) :
    Sound s (hostCommand c ph run s) :=
  hostCommand_forms (P := Sound s) c ph (.refl s) (.stay rfl rfl rfl rfl rfl) (.stay rfl rfl rfl rfl rfl) (h s)
    ((Sound.stay (s := s) (t := s.taken c) rfl rfl rfl rfl rfl).trans (h (s.taken c)))

/-! ### Leases, slots, pool, tap and groups -/

theorem runLeaseRead_sound (s : State) : Sound s (runLeaseRead s) := by
  unfold runLeaseRead
  split <;> exact .stay rfl rfl rfl rfl rfl

theorem runLeaseFind_sound (s : State) : Sound s (runLeaseFind s) := by
  unfold runLeaseFind
  split
  · split <;> exact .stay rfl rfl rfl rfl rfl
  · exact .stay rfl rfl rfl rfl rfl

theorem runLeaseCreate_sound (s : State) : Sound s (runLeaseCreate s) := by
  unfold runLeaseCreate
  split
  · exact .stay rfl rfl rfl rfl rfl
  · split
    · exact .stay rfl rfl rfl rfl rfl
    · split
      · exact .stay rfl rfl rfl rfl rfl
      · split
        · exact (Sound.afterTables s none ⟨_, _, false⟩).trans (.stay rfl rfl rfl rfl rfl)
        · exact .stay rfl rfl rfl rfl rfl
        · exact .stay rfl rfl rfl rfl rfl

theorem runLeaseModify_sound (s : State) : Sound s (runLeaseModify s) := by
  unfold runLeaseModify
  split
  · exact .stay rfl rfl rfl rfl rfl
  · dsimp only
    split
    · exact .stay rfl rfl rfl rfl rfl
    · split <;> exact .stay rfl rfl rfl rfl rfl

theorem purgeIf_sound (s : State) (purge : Bool) (l : LeaseNo) : Sound s (s.purgeIf purge l) := by
  cases purge <;> exact .stay rfl rfl rfl rfl rfl

theorem completeRetire_sound (s : State) (code : ResultCode) (l : LeaseNo) : Sound s (s.completeRetire code l) :=
  .stay rfl rfl rfl rfl rfl

theorem runLeaseRetire_sound (s : State) : Sound s (runLeaseRetire s) := by
  unfold runLeaseRetire
  split
  · exact .stay rfl rfl rfl rfl rfl
  · next l _ =>
    have hretire (purge : Bool) :
        Sound s (((s.afterTables none (s.lsv.retire s.scope .host false l)).purgeIf purge l).completeRetire .ok l) :=
      ((Sound.afterTables s none _).trans (purgeIf_sound _ purge l)).trans (completeRetire_sound _ _ l)
    dsimp only
    split
    · exact .stay rfl rfl rfl rfl rfl
    · split <;> exact .stay rfl rfl rfl rfl rfl
    · exact hretire _
    · exact hretire _
    · exact hretire _

theorem runNoticeTake_sound (s : State) : Sound s (runNoticeTake s) := by
  unfold runNoticeTake
  split <;> exact .stay rfl rfl rfl rfl rfl

theorem runLeaseMove_sound (s : State) : Sound s (runLeaseMove s) := by
  unfold runLeaseMove
  split
  · dsimp only
    split
    · exact .stay rfl rfl rfl rfl rfl
    · split
      · exact .stay rfl rfl rfl rfl rfl
      · split
        · exact (Sound.afterTables s none ⟨_, _, false⟩).trans (.stay rfl rfl rfl rfl rfl)
        · exact .stay rfl rfl rfl rfl rfl
        · exact .stay rfl rfl rfl rfl rfl
  · exact .stay rfl rfl rfl rfl rfl

theorem runSlotRead_sound (s : State) : Sound s (runSlotRead s) := by
  unfold runSlotRead
  split <;> exact .stay rfl rfl rfl rfl rfl

theorem runSlotReserve_sound (s : State) : Sound s (runSlotReserve s) := by
  unfold runSlotReserve
  split <;> exact .stay rfl rfl rfl rfl rfl

theorem runSlotRelease_sound (s : State) : Sound s (runSlotRelease s) := by
  unfold runSlotRelease
  split
  · exact .stay rfl rfl rfl rfl rfl
  · split <;> exact .stay rfl rfl rfl rfl rfl

theorem poolFreeEntry_sound (s : State) (i : Nat) : Sound s (s.poolFreeEntry i) := by
  unfold State.poolFreeEntry
  split <;> exact .stay rfl rfl rfl rfl rfl

theorem poolQuarantineEntry_sound (s : State) (i : Nat) : Sound s (s.poolQuarantineEntry i) := by
  unfold State.poolQuarantineEntry
  split <;> exact .stay rfl rfl rfl rfl rfl

theorem runPoolRead_sound (s : State) : Sound s (runPoolRead s) := by
  unfold runPoolRead
  dsimp only
  split
  · exact .stay rfl rfl rfl rfl rfl
  · exact .stay rfl rfl rfl rfl rfl
  · split
    · exact poolFreeEntry_sound s _
    · exact .stay rfl rfl rfl rfl rfl
  · split
    · exact poolQuarantineEntry_sound s _
    · exact .stay rfl rfl rfl rfl rfl
  · exact .stay rfl rfl rfl rfl rfl

theorem runPoolSet_sound (s : State) : Sound s (runPoolSet s) := by
  unfold runPoolSet
  dsimp only
  split <;> exact .stay rfl rfl rfl rfl rfl

theorem runMonitorSet_sound (s : State) : Sound s (runMonitorSet s) := by
  unfold runMonitorSet
  split
  · split
    · exact .stay rfl rfl rfl rfl rfl
    · split
      · exact .stay rfl rfl rfl rfl rfl
      · split <;> exact .stay rfl rfl rfl rfl rfl
  · exact .stay rfl rfl rfl rfl rfl

theorem runMonitorClear_sound (s : State) : Sound s (runMonitorClear s) := .stay rfl rfl rfl rfl rfl

theorem runGroupRead_sound (s : State) : Sound s (runGroupRead s) := by
  unfold runGroupRead
  split <;> exact .stay rfl rfl rfl rfl rfl

theorem runGroupWrite_sound (s : State) : Sound s (runGroupWrite s) := by
  unfold runGroupWrite
  dsimp only
  split
  · exact .stay rfl rfl rfl rfl rfl
  · split
    · exact .stay rfl rfl rfl rfl rfl
    · split <;> exact .stay rfl rfl rfl rfl rfl

theorem runListenerRead_sound (s : State) : Sound s (runListenerRead s) := by
  unfold runListenerRead
  split
  · split <;> exact .stay rfl rfl rfl rfl rfl
  · exact .stay rfl rfl rfl rfl rfl

/-! ### Ports, meters and counters -/

theorem runPortRead_sound (s : State) : Sound s (runPortRead s) := by
  unfold runPortRead
  split <;> exact .stay rfl rfl rfl rfl rfl

/-- An accepted PORT_SET keeps a port's capacities and silence (R71, R78, R85, R112). -/
theorem configured_sound {f : Format} {x : Port} {a : PortArgs} (format : ¬ (a.format ≠ x.lpi.format ∧ x.lpi.admin ≠ .closed)) :
    PortChange f x f (x.configured a) := by
  unfold Port.configured
  dsimp only
  split
  · next h => exact .opened f h.1 _
  · next hopens =>
    split
    · exact .emptied f x _
    · next hcloses =>
      by_cases hclosed : x.lpi.admin = .closed
      · exact .closed f hclosed _
      · have hformat : a.format = x.lpi.format := by_contra fun hf => format ⟨hf, hclosed⟩
        have hopen : a.admin ≠ .closed := fun ha => hcloses ⟨hclosed, ha⟩
        refine .lpi f x (fun hs => ?_) hformat
        simpa [Lpi.answers, Lpi.configured, hclosed, hopen] using hs

theorem runPortSet_sound (s : State) : Sound s (runPortSet s) := by
  unfold runPortSet
  split
  · dsimp only
    split
    · exact .stay rfl rfl rfl rfl rfl
    · next hformat =>
      split
      · exact .stay rfl rfl rfl rfl rfl
      · exact (Sound.setPort (configured_sound hformat)).trans (.stay rfl rfl rfl rfl rfl)
  · exact .stay rfl rfl rfl rfl rfl

theorem runMeterRead_sound (s : State) : Sound s (runMeterRead s) := by
  unfold runMeterRead
  split
  · dsimp only
    split <;> exact .stay rfl rfl rfl rfl rfl
  · exact .stay rfl rfl rfl rfl rfl

theorem setCmt_sound {s : State} {p : PortNo} {m : Cmt}
    (buckets : s.ports[p].cmt.committed ≤ s.ports[p].cmt.cbs → s.ports[p].cmt.excess ≤ s.ports[p].cmt.ebs →
      m.committed ≤ m.cbs ∧ m.excess ≤ m.ebs) : Sound s (s.setCmt p m) :=
  .setPort (.cmt _ _ buckets)

theorem runMeterSet_sound (s : State) : Sound s (runMeterSet s) := by
  unfold runMeterSet
  dsimp only
  split
  · exact .stay rfl rfl rfl rfl rfl
  · split
    · exact .stay rfl rfl rfl rfl rfl
    · exact (setCmt_sound fun _ _ => ⟨le_rfl, le_rfl⟩).trans (.stay rfl rfl rfl rfl rfl)

theorem bounded_clearBank0 {k : Counters} (h : k.Bounded) : k.clearBank0.Bounded :=
  ⟨Nat.zero_le _, Nat.zero_le _, Nat.zero_le _, h.refused, h.rate, h.tableFull, Nat.zero_le _⟩

theorem bounded_clearBank1 {k : Counters} (h : k.Bounded) : k.clearBank1.Bounded :=
  ⟨h.checkErr, h.fragment, h.overrun, Nat.zero_le _, Nat.zero_le _, Nat.zero_le _, h.replyLost⟩

theorem setCounters_sound {s : State} {p : PortNo} {k : Counters} (counters : s.ports[p].cch.counters.Bounded → k.Bounded) :
    Sound s (s.setCch p { s.ports[p].cch with counters := k }) :=
  .setPort (.queued (fun _ hq => hq) id counters)

theorem runCountersRead_sound (s : State) : Sound s (runCountersRead s) := by
  unfold runCountersRead
  split
  · dsimp only
    split
    · exact (setCounters_sound bounded_clearBank0).trans (.stay rfl rfl rfl rfl rfl)
    · exact (setCounters_sound bounded_clearBank1).trans (.stay rfl rfl rfl rfl rfl)
  · exact .stay rfl rfl rfl rfl rfl

/-! ### Highway, Sweep Timer and refusal record -/

theorem runHighwayRead_sound (s : State) : Sound s (runHighwayRead s) :=
  ⟨fun _ => .refl _ _, fun _ => Nat.zero_le _, id, rfl⟩

theorem runHighwaySet_sound (s : State) : Sound s (runHighwaySet s) := by
  unfold runHighwaySet
  split
  · exact .stay rfl rfl rfl rfl rfl
  · split
    · exact .stay rfl rfl rfl rfl rfl
    · exact ⟨fun _ => .refl _ _, id, id, rfl⟩

theorem runSweepRead_sound (s : State) : Sound s (runSweepRead s) := by
  unfold runSweepRead
  dsimp only
  split
  · exact ⟨fun _ => .refl _ _, id, fun _ => Nat.zero_le _, rfl⟩
  · exact .stay rfl rfl rfl rfl rfl
  · exact .stay rfl rfl rfl rfl rfl

theorem runSweepSet_sound (s : State) : Sound s (runSweepSet s) := by
  unfold runSweepSet
  dsimp only
  split
  · exact ⟨fun _ => .refl _ _, id, id, rfl⟩
  · exact .stay rfl rfl rfl rfl rfl

theorem runRefusalRead_sound (s : State) : Sound s (runRefusalRead s) := .stay rfl rfl rfl rfl rfl

/-! ### The walk, ABORT and SOFT_RESET -/

theorem completeAborted_sound (s : State) (count position : Nat) : Sound s (s.completeAborted count position) := by
  unfold State.completeAborted
  dsimp only
  split <;> exact .stay rfl rfl rfl rfl rfl

theorem walkStart_sound (s : State) : Sound s (walkStart s) := by
  unfold walkStart
  dsimp only
  split
  · exact completeAborted_sound s 0 0
  · split <;> exact .stay rfl rfl rfl rfl rfl

theorem retireScopeStep_sound (ph : Phase) (s : State) : Sound s (retireScopeStep ph s) := by
  unfold retireScopeStep
  split
  · exact .refl s
  · cases ph with
    | whole =>
      dsimp only
      split
      · exact .stay rfl rfl rfl rfl rfl
      · exact (Sound.stay (s := s) (t := s.takenWalk) rfl rfl rfl rfl rfl).trans (walkStart_sound s.takenWalk)
    | write =>
      dsimp only
      split <;> exact .stay rfl rfl rfl rfl rfl
    | take =>
      dsimp only
      split
      · exact walkStart_sound s
      · exact .refl s

theorem walkRetire_sound (s : State) (sc : Scope) (l : LeaseNo) : Sound s (s.walkRetire sc l) := by
  unfold State.walkRetire
  split
  · exact .afterTables s none _
  · exact .refl s

theorem walkVisitStep_sound (s : State) : Sound s (walkVisitStep s) := by
  unfold walkVisitStep
  split
  · exact .refl s
  · split
    · next sc l _ _ =>
      unfold walkVisitAt
      dsimp only
      split <;> exact (walkRetire_sound s sc l).trans (.stay rfl rfl rfl rfl rfl)
    · exact .refl s

theorem writeAbort_sound (s : State) : Sound s s.writeAbort := by
  unfold State.writeAbort
  split
  · rw [State.abortBusy_frame]
    exact .stay rfl rfl rfl rfl rfl
  · exact .stay rfl rfl rfl rfl rfl

theorem takeAbort_sound (s : State) : Sound s s.takeAbort := by
  unfold State.takeAbort
  split <;> exact .stay rfl rfl rfl rfl rfl

theorem abortStep_sound (s : State) : Sound s (abortStep s) := by
  unfold abortStep
  split
  · exact .refl s
  · split
    · exact takeAbort_sound s
    · exact (writeAbort_sound s).trans (takeAbort_sound _)

theorem walkEndingStep_sound (s : State) : Sound s (walkEndingStep s) := by
  unfold walkEndingStep
  dsimp only
  split
  · exact .refl s
  · split
    · exact completeAborted_sound s _ _
    · exact .refl s

theorem softReset_sound (s : State) (m : ResetMode) : Sound s (s.softReset m) := by
  cases m with
  | clear =>
    refine ⟨fun p => ?_, fun _ => Nat.zero_le _, fun _ => Nat.zero_le _, rfl⟩
    simp only [State.softReset, tab_get]
    exact .fresh rfl fun _ => ⟨le_rfl, le_rfl⟩
  | keep =>
    refine ⟨fun p => ?_, fun _ => Nat.zero_le _, fun _ => Nat.zero_le _, rfl⟩
    simp only [State.softReset, tab_get]
    exact .fresh rfl fun _ => ⟨le_rfl, le_rfl⟩

theorem takeReset_sound (s : State) : Sound s s.takeReset := by
  unfold State.takeReset
  split
  · unfold State.runSoftReset
    split
    · exact (softReset_sound s _).trans (.stay rfl rfl rfl rfl rfl)
    · exact .stay rfl rfl rfl rfl rfl
  · exact .refl s

theorem writeReset_sound (s : State) : Sound s s.writeReset := by
  rw [State.writeReset_frame]
  exact .stay rfl rfl rfl rfl rfl

theorem softResetStep_sound (s : State) : Sound s (softResetStep s) := by
  unfold softResetStep
  split
  · exact .refl s
  · split
    · exact takeReset_sound s
    · exact (writeReset_sound s).trans (takeReset_sound _)

/-! ### The register window -/

theorem unknownCommandStep_sound (w : Word) (s : State) : Sound s (unknownCommandStep w s) := by
  unfold unknownCommandStep
  split
  · exact .refl s
  · split <;> exact .stay rfl rfl rfl rfl rfl

theorem collisionStep_sound (w : Word) (s : State) : Sound s (collisionStep w s) := by
  unfold collisionStep
  split
  · exact .refl s
  · split <;> exact .stay rfl rfl rfl rfl rfl

theorem istatWriteStep_sound (w : Word) (s : State) : Sound s (istatWriteStep w s) := by
  unfold istatWriteStep
  split <;> exact .stay rfl rfl rfl rfl rfl

theorem ienWriteStep_sound (w : Word) (s : State) : Sound s (ienWriteStep w s) := by
  unfold ienWriteStep
  split <;> exact .stay rfl rfl rfl rfl rfl

theorem commandWriteStep_sound (w : Word) (s : State) : Sound s (commandWriteStep w s) := by
  unfold commandWriteStep
  split
  case h_1 => exact unknownCommandStep_sound w s
  case h_2 =>
    split
    · exact .refl s
    · exact writeAbort_sound s
  case h_3 =>
    split
    · exact .refl s
    · exact writeReset_sound s
  case h_4 => exact retireScopeStep_sound .write s
  case h_5 => exact hostCommand_sound _ .write .refl s

theorem argumentWriteStep_sound (n : Fin 16) (w : Word) (s : State) : Sound s (argumentWriteStep n w s) := by
  unfold argumentWriteStep
  split
  · exact .refl s
  · split <;> exact .stay rfl rfl rfl rfl rfl

theorem registerWriteStep_sound (n : Fin 16) (w : Word) (s : State) : Sound s (registerWriteStep n w s) := by
  unfold registerWriteStep
  split
  · exact commandWriteStep_sound w s
  · exact istatWriteStep_sound w s
  · exact ienWriteStep_sound w s
  · exact argumentWriteStep_sound n w s

end Sys2Proof.Spec
end

section
/-! PROOF. The rows of the line side, of the frames and of the pins as changes that keep capacities and silence: O52 and O53. -/

namespace Sys2Proof.Spec

open Sys2Proof.Machine

/-! ### The Claim Channel -/

theorem receiveByte_sound (s : State) (p : PortNo) (b : Byte) : Sound s (s.receiveByte p b) := by
  unfold State.receiveByte
  split
  · next h =>
    obtain ⟨-, hanswers, hsignals⟩ := (State.assembles_iff s p).mp h
    obtain ⟨-, hformat⟩ := (State.signals_iff s p).mp hsignals
    exact .setPort (.receive b hanswers hformat)
  · exact .refl s

theorem headerInHuntStep_sound (p : PortNo) (b : Byte) (s : State) : Sound s (headerInHuntStep p b s) := by
  unfold headerInHuntStep
  split
  · exact receiveByte_sound s p b
  · exact .refl s

theorem headerInGatherStep_sound (p : PortNo) (b : Byte) (s : State) : Sound s (headerInGatherStep p b s) := by
  unfold headerInGatherStep
  split
  · exact receiveByte_sound s p b
  · exact .refl s

theorem continuationInGatherStep_sound (p : PortNo) (b : Byte) (s : State) : Sound s (continuationInGatherStep p b s) := by
  unfold continuationInGatherStep
  dsimp only
  split
  · exact receiveByte_sound s p b
  · exact .refl s

theorem messageCompleteStep_sound (p : PortNo) (b : Byte) (s : State) : Sound s (messageCompleteStep p b s) := by
  unfold messageCompleteStep
  split
  · exact (receiveByte_sound s p b).trans (.pollServing _)
  · exact .refl s

theorem transmitted_sound (s : State) (p : PortNo) : Sound s (s.transmitted p) := by
  unfold State.transmitted
  split
  · next h => exact .setPort (.advance ((State.signals_iff s p).mp h).2)
  · exact .refl s

/-- A Payload Switch with the same formats in force. -/
theorem Sound.psw (s : State) {w : Psw} (h : w.formats = s.psw.formats) : Sound s { s with psw := w } :=
  .ofPorts (fun _ => .refl _ _) h rfl rfl rfl

theorem replySentStep_sound (p : PortNo) (s : State) : Sound s (replySentStep p s) := by
  unfold replySentStep
  split
  · refine ((transmitted_sound s p).trans (.psw _ ?_)).trans (.pollServing _)
    rw [State.transmitted_psw]
    rfl
  · exact .refl s

/-! ### Serving (R83, R92, R93) -/

/-- A served message leaves a meter within its buckets (R96). -/
theorem take_buckets (m : Cmt) (c : Colour) (hc : m.committed ≤ m.cbs) (he : m.excess ≤ m.ebs) :
    (m.take c).committed ≤ (m.take c).cbs ∧ (m.take c).excess ≤ (m.take c).ebs := by
  cases c with
  | green => exact ⟨(Nat.sub_le _ _).trans hc, he⟩
  | amber => exact ⟨hc, (Nat.sub_le _ _).trans he⟩
  | red => exact ⟨hc, he⟩

/-- The meter after a serving is the port's own, or what the claim's colour took of it. -/
theorem serveMessage_meter (s : State) (p : PortNo) (m : Message) :
    (s.serveMessage p m).meter = s.ports[p].cmt ∨ ∃ c, (s.serveMessage p m).meter = s.ports[p].cmt.take c := by
  unfold State.serveMessage
  split
  · unfold State.serveClaim
    dsimp only
    split
    · exact .inl rfl
    · unfold State.claimMetered
      dsimp only
      split
      · exact .inr ⟨_, rfl⟩
      · split
        · exact .inr ⟨_, rfl⟩
        · split <;> exact .inr ⟨_, rfl⟩
    · exact .inl rfl
  · unfold State.serveRelease
    dsimp only
    split
    · exact .inl rfl
    · split <;> exact .inl rfl
  · unfold State.serveRefresh
    dsimp only
    split
    · exact .inl rfl
    · split <;> exact .inl rfl
  · unfold State.serveQuery
    dsimp only
    split <;> exact .inl rfl
  · exact .inl rfl

theorem serveMessage_buckets (s : State) (p : PortNo) (m : Message) (hc : s.ports[p].cmt.committed ≤ s.ports[p].cmt.cbs)
    (he : s.ports[p].cmt.excess ≤ s.ports[p].cmt.ebs) :
    (s.serveMessage p m).meter.committed ≤ (s.serveMessage p m).meter.cbs ∧
      (s.serveMessage p m).meter.excess ≤ (s.serveMessage p m).meter.ebs := by
  obtain h | ⟨c, h⟩ := serveMessage_meter s p m <;> rw [h]
  · exact ⟨hc, he⟩
  · exact take_buckets _ c hc he

/-- A port that holds a message answers, with its format in force (R71, R72). -/
theorem ShutPort.answers {f : Format} {x : Port} (h : ShutPort f x) (hbuf : x.cch.bufA.isSome = true) :
    x.lpi.answers = true ∧ f = x.lpi.format := by
  constructor
  · by_contra hs
    rw [Bool.not_eq_true] at hs
    rw [(h.silent hs).1.bufA] at hbuf
    cases hbuf
  · by_contra hf
    rw [(h.reformatted hf).bufA] at hbuf
    cases hbuf

theorem answered_counters {c : Cch} (h : c.counters.Bounded) (reply : Reply) (reason : Option Reason) :
    (c.answered reply reason).counters.Bounded := by
  cases reason with
  | none => exact h
  | some r => exact bounded_addRefusal h r

theorem answered_queue (c : Cch) (reply : Reply) (reason : Option Reason) :
    (c.answered reply reason).queue = c.queue ++ [reply] := by
  cases reason <;> rfl

theorem answered_buffers (c : Cch) (reply : Reply) (reason : Option Reason) :
    (c.answered reply reason).bufA = c.bufA ∧ (c.answered reply reason).bufB = c.bufB := by
  cases reason <;> exact ⟨rfl, rfl⟩

/-- The port served: its message is consumed, unsolicited replies take at most the room before the last place, and the solicited
reply takes one (R83). -/
theorem served_sound {f : Format} {x y : Port} (eligible : x.eligible = true) {m : Cmt} (reply : Reply)
    (reason : Option Reason)
    (buckets : x.cmt.committed ≤ x.cmt.cbs → x.cmt.excess ≤ x.cmt.ebs → m.committed ≤ m.cbs ∧ m.excess ≤ m.ebs)
    (frame : ∃ (queue : List Reply) (counters : Counters),
      y = { x with cch := { x.cch.consume with queue := queue, counters := counters }, cmt := m })
    (queue : y.cch.queue.length ≤ 7) (counters : x.cch.counters.Bounded → y.cch.counters.Bounded) :
    PortChange f x f { y with cch := y.cch.answered reply reason } := by
  obtain ⟨hbuf, -⟩ := (Port.eligible_iff x).mp eligible
  obtain ⟨hA, hB⟩ := answered_buffers y.cch reply reason
  refine ⟨fun h => ⟨?_, ?_, answered_counters (counters h.counters) reply reason, ?_, ?_⟩, fun h => ?_⟩
  · rw [answered_queue, List.length_append]
    exact Nat.succ_le_succ queue
  · rw [hA, hB]
    obtain ⟨q, k, rfl⟩ := frame
    exact nofun
  · obtain ⟨q, k, rfl⟩ := frame
    exact (buckets h.committed h.excess).1
  · obtain ⟨q, k, rfl⟩ := frame
    exact (buckets h.committed h.excess).2
  · obtain ⟨hanswers, hformat⟩ := h.answers hbuf
    obtain ⟨q, k, rfl⟩ := frame
    exact ⟨fun hs => (nomatch hanswers.symm.trans hs), fun hf => absurd hformat hf⟩

theorem noteRefusal_sound (s : State) (p : PortNo) (m : Message) (r : Option Reason) : Sound s (s.noteRefusal p m r) := by
  cases r <;> exact .stay rfl rfl rfl rfl rfl

/-- The ports with the message of port `p` consumed and its meter replaced. -/
def consumed (s : State) (p : PortNo) (m : Message) : Vector Port 4 :=
  upd s.ports p { s.ports[p] with cch := s.ports[p].cch.consume, cmt := (s.serveMessage p m).meter }

/-- The Payload Switch, the HWI and the Sweep Timer have no part in a serving. -/
theorem serve_rest (s : State) (p : PortNo) (m : Message) :
    (s.serve p m).psw = s.psw ∧ (s.serve p m).hwi = s.hwi ∧ (s.serve p m).swt = s.swt ∧
      (s.serve p m).pending = s.pending := by
  have hnoted (t : State) (r : Option Reason) :
      (t.noteRefusal p m r).psw = t.psw ∧ (t.noteRefusal p m r).hwi = t.hwi ∧ (t.noteRefusal p m r).swt = t.swt ∧
        (t.noteRefusal p m r).pending = t.pending := by
    cases r <;> exact ⟨rfl, rfl, rfl, rfl⟩
  unfold State.serve
  dsimp only
  obtain ⟨hpsw, hhwi, hswt, hpending⟩ := hnoted _ _
  rw [hpsw, hhwi, hswt, hpending]
  simp only [State.setCch_psw, State.setCch_hwi, State.setCch_swt, State.afterTables_psw, State.afterTables_hwi,
    State.afterTables_swt, State.setCch_pending, State.afterTables_pending]
  exact ⟨rfl, rfl, rfl, rfl⟩

theorem serve_ports (s : State) (p : PortNo) (m : Message) :
    (s.serve p m).ports =
      upd (placeAll (some p) (consumed s p m) (s.serveMessage p m).op.out) p
        { (placeAll (some p) (consumed s p m) (s.serveMessage p m).op.out)[p] with
          cch := (placeAll (some p) (consumed s p m) (s.serveMessage p m).op.out)[p].cch.answered
            (s.serveMessage p m).reply (s.serveMessage p m).reason } := by
  unfold State.serve
  dsimp only
  rw [(noteRefusal_stay _ p m _).2, State.setCch_ports]
  simp only [State.afterTables_ports]
  rfl

theorem serve_sound {s : State} {p : PortNo} (m : Message) (eligible : s.ports[p].eligible = true) :
    Sound s (s.serve p m) := by
  have hself : (consumed s p m)[p] =
      { s.ports[p] with cch := s.ports[p].cch.consume, cmt := (s.serveMessage p m).meter } := upd_get_self ..
  have hother (q : PortNo) (hq : p ≠ q) : (consumed s p m)[q] = s.ports[q] := upd_get_other _ hq _
  obtain ⟨-, hqueue⟩ := (Port.eligible_iff _).mp eligible
  obtain ⟨hpsw, hhwi, hswt, hpending⟩ := serve_rest s p m
  refine .ofPorts (fun q => ?_) (by rw [hpsw]) hhwi hswt hpending
  rw [serve_ports, upd_get]
  split
  · next hq =>
    subst hq
    refine served_sound eligible _ _ (serveMessage_buckets s p m) ?_ ?_ fun hk => ?_
    · obtain ⟨queue, counters, h⟩ := placeAll_frame (some p) (consumed s p m) (s.serveMessage p m).op.out p
      rw [h, hself]
      exact ⟨queue, counters, rfl⟩
    · have hroom : unsolicitedRoom (some p) p = 7 := if_pos rfl
      have hplaced := placeAll_queue (some p) (consumed s p m) (s.serveMessage p m).op.out p
      rw [hroom, hself] at hplaced
      exact hplaced.trans (max_le (hqueue.trans (by decide)) le_rfl)
    · refine placeAll_port (fun x => x.cch.counters.Bounded) (some p) p (fun ports u hx => ?_) _ _ (by rw [hself]; exact hk)
      obtain h | ⟨-, -, ⟨-, h⟩ | h⟩ := placeOne_port (some p) ports u p <;> rw [h]
      · exact hx
      · exact hx
      · exact ⟨hx.checkErr, hx.fragment, hx.overrun, hx.refused, hx.rate, hx.tableFull, saturate_le _⟩
  · next hq =>
    have hplaced := PortChange.placeAll (some p) (consumed s p m) (s.serveMessage p m).op.out s.psw.formats[q] q
    rwa [hother q hq] at hplaced

theorem servingStep_sound (s : State) : Sound s (servingStep s) := by
  have hafter (t : State) : Sound t t.afterServing :=
    (Sound.stay (s := t) (t := { t with cpr := { t.cpr with requested := false } }) rfl rfl rfl rfl rfl).trans
      (.pollServing _)
  unfold servingStep
  split
  · refine Sound.trans ?_ (hafter _)
    unfold State.serveNext
    split
    · exact .refl s
    · next p hp =>
      split
      · exact .refl s
      · have heligible := List.find?_some hp
        exact serve_sound _ heligible
  · exact .refl s

end Sys2Proof.Spec
end

section
/-! PROOF. The rows of faults, frames, the highway, the sweep and the pins as changes that keep capacities and silence; O52 and
O53. -/

namespace Sys2Proof.Spec

open Sys2Proof.Machine

/-! ### The condition of a line port -/

/-- A line port that does not answer answered no more before, in the same format. -/
structure StillAnswers (l l' : Lpi) : Prop where
  answers : l'.answers = false → l.answers = false
  format : l'.format = l.format

theorem Sound.setLpi {s : State} {p : PortNo} {l : Lpi} (h : StillAnswers s.ports[p].lpi l) : Sound s (s.setLpi p l) :=
  .setPort (.lpi _ _ h.answers h.format)

theorem StillAnswers.refl (l : Lpi) : StillAnswers l l := ⟨id, rfl⟩

/-- A port answers in NORMAL and in PENDING, and in FAULTED and RECOVERING it does not. -/
theorem StillAnswers.ofCondition {l l' : Lpi} (admin : l'.admin = l.admin) (format : l'.format = l.format)
    (condition : (l.condition = .normal ∨ l.condition = .pending) → l'.condition = .normal ∨ l'.condition = .pending) :
    StillAnswers l l' := by
  refine ⟨fun h => ?_, format⟩
  rw [← Bool.not_eq_true] at h ⊢
  refine mt (fun ha => ?_) h
  rw [Lpi.answers_iff] at ha ⊢
  rw [admin]
  exact ⟨ha.1, condition ha.2⟩

theorem StillAnswers.faultEvent (l : Lpi) : StillAnswers l l.faultEvent := by
  unfold Lpi.faultEvent
  split
  case h_1 => exact .ofCondition rfl rfl fun _ => .inr rfl
  case h_2 h => exact .ofCondition rfl rfl fun hx => by rw [h] at hx; exact hx.elim nofun nofun
  case h_3 => exact .refl l
  case h_4 => exact .refl l

theorem recover_sound (s : State) (p : PortNo) : Sound s (s.recover p) := by
  refine .ofPorts (fun q => ?_) rfl rfl rfl rfl
  exact PortChange.upd (.lpi _ _ (StillAnswers.ofCondition (l := s.ports[p].lpi) (l' := { s.ports[p].lpi with
    condition := .normal, recoveryTimer := none, countdown := 0, lost := false }) rfl rfl fun _ => .inl rfl).answers rfl) q

theorem enterFaulted_sound (s : State) (p : PortNo) : Sound s (s.enterFaulted p) :=
  .ofPorts (PortChange.upd (.emptied _ _ _)) rfl rfl rfl rfl

theorem clearEvent_sound (s : State) (p : PortNo) : Sound s (s.clearEvent p) := by
  unfold State.clearEvent
  dsimp only
  split
  case h_1 => exact .setLpi (.ofCondition rfl rfl fun _ => .inl rfl)
  case h_2 h =>
    split
    · exact recover_sound s p
    · exact .setLpi (.ofCondition rfl rfl fun hx => by rw [h] at hx; exact hx.elim nofun nofun)
  case h_3 => exact .refl s
  case h_4 => exact .refl s

theorem faultInput_sound (s : State) (p : PortNo) (level : Bool) : Sound s (s.faultInput p level) := by
  have hlevel : Sound s (s.setLpi p { s.ports[p].lpi with faultIn := level }) := .setLpi (.ofCondition rfl rfl id)
  unfold State.faultInput
  dsimp only
  split
  · exact .refl s
  · split
    · exact hlevel
    · split
      · refine hlevel.trans (.setLpi ?_)
        rw [State.setLpi_ports, upd_get_self]
        exact .faultEvent _
      · exact hlevel.trans (clearEvent_sound _ p)

theorem faultLevelStep_sound (p : PortNo) (level : Bool) (s : State) : Sound s (faultLevelStep p level s) := by
  unfold faultLevelStep
  split
  · exact faultInput_sound s p level
  · exact .refl s

theorem holdExpiryStep_sound (p : PortNo) (s : State) : Sound s (holdExpiryStep p s) := by
  unfold holdExpiryStep
  split
  · exact enterFaulted_sound s p
  · exact .refl s

theorem recoveryExpiryStep_sound (p : PortNo) (s : State) : Sound s (recoveryExpiryStep p s) := by
  unfold recoveryExpiryStep
  split
  · exact recover_sound s p
  · exact .refl s

/-! ### Frames -/

theorem carryLine_sound (s : State) (p : PortNo) (rx : Vector Byte 32) : Sound s (s.carryLine p rx) :=
  (transmitted_sound s p).trans (.psw _ (by rw [State.transmitted_psw]))

theorem watchLine_sound (s : State) (p : PortNo) (alarm : Bool) (pulse : Option Nat) : Sound s (s.watchLine p alarm pulse) := by
  have hexpects : Sound s (s.setLpi p (s.ports[p].lpi.expects pulse)) := .setLpi (.ofCondition rfl rfl id)
  exact hexpects.trans (faultInput_sound _ p _)

theorem lineFrameStep_sound (p : PortNo) (rx : Vector Byte 32) (alarm : Bool) (pulse : Option Nat) (cch : Bool) (s : State) :
    Sound s (lineFrameStep p rx alarm pulse cch s) := by
  have hcarry := carryLine_sound s p rx
  unfold lineFrameStep
  dsimp only
  split
  · exact hcarry
  · refine Sound.trans ?_ (.pollServing _)
    cases cch with
    | false => exact hcarry.trans (watchLine_sound _ p alarm pulse)
    | true => exact (hcarry.trans (receiveByte_sound _ p _)).trans (watchLine_sound _ p alarm pulse)

theorem countExcess_buckets (m : Cmt) :
    m.countExcess.committed = m.committed ∧ m.countExcess.cbs = m.cbs ∧ m.countExcess.excess = m.excess ∧
      m.countExcess.ebs = m.ebs := by
  unfold Cmt.countExcess
  split <;> exact ⟨rfl, rfl, rfl, rfl⟩

/-- A frame counted by the meter and by the timers of the line port (R95, R116, R118). -/
theorem countFrame_sound (f : Format) (x : Port) : PortChange f x f x.countFrame := by
  have hlpi : StillAnswers x.lpi x.lpi.countFrame := by
    unfold Lpi.countFrame
    split
    · exact .ofCondition rfl rfl id
    · exact .ofCondition rfl rfl id
  obtain ⟨hc, hcbs, he, hebs⟩ := countExcess_buckets x.cmt.countCommitted
  refine (PortChange.lpi f x hlpi.answers hlpi.format).trans (.cmt f _ fun hcommitted hexcess => ?_)
  rw [hc, hcbs, he, hebs]
  exact ⟨hcommitted, hexcess⟩

theorem frameSwt_overrun (s : State) : s.frameSwt.overrun = s.swt.overrun := by
  unfold State.frameSwt
  split
  · unfold Swt.countFrame
    dsimp only
    split <;> rfl
  · rfl

theorem frameStartStep_sound (s : State) : Sound s (frameStartStep s) := by
  have hformats (p : PortNo) : s.framePsw.formats[p] = s.ports[p].lpi.format := tab_get _ p
  unfold frameStartStep
  dsimp only
  split
  · refine ⟨fun p => ?_, id, id, rfl⟩
    rw [hformats]
    exact .frame _ _
  · refine ⟨fun p => ?_, id, fun h => by rw [frameSwt_overrun]; exact h, rfl⟩
    rw [hformats, tab_get]
    exact (PortChange.frame _ _).trans (countFrame_sound _ _)

theorem refillCommitted_buckets (m : Cmt) (hc : m.committed ≤ m.cbs) (he : m.excess ≤ m.ebs) :
    m.refillCommitted.committed ≤ m.refillCommitted.cbs ∧ m.refillCommitted.excess ≤ m.refillCommitted.ebs := by
  unfold Cmt.refillCommitted
  split
  · dsimp only
    split
    · next hlt => exact ⟨hlt, he⟩
    · exact ⟨hc, he⟩
  · exact ⟨hc, he⟩

theorem refillExcess_buckets (m : Cmt) (hc : m.committed ≤ m.cbs) (he : m.excess ≤ m.ebs) :
    m.refillExcess.committed ≤ m.refillExcess.cbs ∧ m.refillExcess.excess ≤ m.refillExcess.ebs := by
  unfold Cmt.refillExcess
  split
  · dsimp only
    split
    · next hlt => exact ⟨hc, hlt⟩
    · exact ⟨hc, he⟩
  · exact ⟨hc, he⟩

theorem refillStep_sound {refill : Cmt → Cmt}
    (buckets : ∀ m : Cmt, m.committed ≤ m.cbs → m.excess ≤ m.ebs →
      (refill m).committed ≤ (refill m).cbs ∧ (refill m).excess ≤ (refill m).ebs) (p : PortNo) (s : State) :
    Sound s (refillStep refill p s) := by
  unfold refillStep
  split
  · exact .refl s
  · exact setCmt_sound (buckets s.ports[p].cmt)

/-! ### The highway -/

theorem highwayEvent_formats (s : State) (h : Hwi) (start : BitTime) (hwIn : Vector Byte 256) :
    (s.highwayEvent h start hwIn).psw.formats = s.psw.formats := by
  by_cases ha : h.alignment = .aligned
  · rw [State.highwayEvent_aligned s ha]
    rfl
  · rw [State.highwayEvent_lost s ha]

theorem highwayEvent_sound {s : State} {h : Hwi} (realign : s.hwi.realign ≤ 65535 → h.realign ≤ 65535) (start : BitTime)
    (hwIn : Vector Byte 256) : Sound s (s.highwayEvent h start hwIn) := by
  have hframe := State.highwayEvent_frame s h start hwIn
  refine ⟨fun p => ?_, fun hx => ?_, fun hx => ?_, by rw [hframe]⟩
  · rw [highwayEvent_formats, hframe]
    exact .refl _ _
  · rw [hframe]
    exact realign hx
  · rw [hframe]
    exact hx

theorem pulse_realign (h : Hwi) (t : BitTime) (hr : h.realign ≤ 65535) : (h.pulse t).realign ≤ 65535 := by
  unfold Hwi.pulse
  dsimp only
  split
  · exact hr
  · split
    · split
      · exact hr
      · exact saturate_le _
    · exact hr
  · split <;> exact hr

theorem miss_realign (h : Hwi) : h.miss.realign = h.realign := by
  unfold Hwi.miss
  split
  · rfl
  · rfl
  · split <;> rfl

theorem highwayPulseStep_sound (t : BitTime) (hwIn : Vector Byte 256) (s : State) : Sound s (highwayPulseStep t hwIn s) := by
  unfold highwayPulseStep
  split
  · exact .refl s
  · exact highwayEvent_sound (pulse_realign s.hwi t) _ _

theorem pulseMissingStep_sound (hwIn : Vector Byte 256) (s : State) : Sound s (pulseMissingStep hwIn s) := by
  unfold pulseMissingStep
  split
  · exact .refl s
  · exact highwayEvent_sound (fun h => by rw [miss_realign]; exact h) _ _

/-! ### The sweep -/

theorem tick_line (l : Lpi) : StillAnswers l l.tick := by
  unfold Lpi.tick
  split
  · exact .ofCondition rfl rfl id
  · exact .refl l

theorem tick_overrun (t : Swt) (h : t.overrun ≤ 65535) : t.tick.overrun ≤ 65535 := by
  unfold Swt.tick
  split
  · exact h
  · split
    · exact saturate_le _
    · exact h

theorem tick_sound (s : State) : Sound s s.tick := by
  refine ⟨fun p => ?_, fun h => ?_, fun h => ?_, State.raiseIf_pending ..⟩
  · rw [State.tick, State.raiseIf_psw, State.raiseIf_ports, tab_get]
    exact .lpi _ _ (tick_line s.ports[p].lpi).answers (tick_line s.ports[p].lpi).format
  · rw [State.tick, State.raiseIf_hwi]
    exact h
  · rw [State.tick, State.raiseIf_swt]
    exact tick_overrun s.swt h

theorem sweepTickStep_sound (s : State) : Sound s (sweepTickStep s) := by
  unfold sweepTickStep
  split
  · exact tick_sound s
  · exact .refl s

theorem lostStep_sound (p : PortNo) (s : State) : Sound s (lostStep p s) := by
  unfold lostStep
  split
  · exact tick_sound s
  · exact .refl s

/-- A Sweep Timer with the same overrun counter. -/
theorem Sound.swt (s : State) {t : Swt} (h : t.overrun = s.swt.overrun) : Sound s { s with swt := t } :=
  ⟨fun _ => .refl _ _, id, fun hx => by rw [h]; exact hx, rfl⟩

theorem phase_sound (s : State) : Sound s s.phase := ⟨fun _ => .refl _ _, id, id, rfl⟩

theorem quarantinePhaseStep_sound (s : State) : Sound s (quarantinePhaseStep s) := by
  unfold quarantinePhaseStep
  split
  · split
    · exact .swt s rfl
    · exact phase_sound s
  · exact .refl s

theorem guardExpiryStep_sound (sl : SlotNo) (s : State) : Sound s (guardExpiryStep sl s) := by
  unfold guardExpiryStep
  split
  · exact phase_sound s
  · exact .refl s

theorem visitLease_sound (s : State) (l : LeaseNo) : Sound s (s.visitLease l) := by
  unfold State.visitLease
  split
  · exact .refl s
  · exact .stay rfl rfl rfl rfl rfl
  · exact .afterTables s none _
  · exact .afterTables s none _

theorem afterVisit_overrun (t : Swt) (l : LeaseNo) : (t.afterVisit l).overrun = t.overrun := by
  unfold Swt.afterVisit
  split
  · rfl
  · split <;> rfl

theorem visitLease_swt (s : State) (l : LeaseNo) : (s.visitLease l).swt = s.swt := by
  unfold State.visitLease
  split
  · rfl
  · rfl
  · exact State.afterTables_swt ..
  · exact State.afterTables_swt ..

theorem sweepVisitAt_sound (s : State) (l : LeaseNo) : Sound s (s.sweepVisitAt l) :=
  (visitLease_sound s l).trans (.swt _ (by rw [visitLease_swt, afterVisit_overrun]))

theorem sweepVisitStep_sound (s : State) : Sound s (sweepVisitStep s) := by
  unfold sweepVisitStep
  split
  · exact .refl s
  · split
    · exact .swt s rfl
    · exact sweepVisitAt_sound s _

theorem leaseExpiryStep_sound (s : State) : Sound s (leaseExpiryStep s) := by
  unfold leaseExpiryStep
  split
  · exact .refl s
  · split
    · exact sweepVisitAt_sound s _
    · exact .refl s

/-! ### The pins -/

theorem held_sound (s : State) : Sound s s.held := by
  have hport (p : PortNo) : s.held.ports[p] = Port.initial := Vector.getElem_replicate p.isLt
  refine ⟨fun p => ?_, fun _ => Nat.zero_le _, fun _ => Nat.zero_le _, rfl⟩
  rw [hport]
  exact .fresh rfl fun _ => ⟨le_rfl, le_rfl⟩

theorem resubmit_overrun (t : Swt) : t.resubmit.overrun = t.overrun := by
  unfold Swt.resubmit
  split <;> rfl

/-! ### A step -/

theorem exec_sound {i : Instr} {s t : State} (h : exec i s = .next t) : Sound s t := by
  cases i <;> obtain rfl := Host.Outcome.next.inj h
  case leaseRead ph => exact hostCommand_sound _ ph runLeaseRead_sound s
  case leaseFind ph => exact hostCommand_sound _ ph runLeaseFind_sound s
  case leaseCreate ph => exact hostCommand_sound _ ph runLeaseCreate_sound s
  case leaseModify ph => exact hostCommand_sound _ ph runLeaseModify_sound s
  case leaseRetire ph => exact hostCommand_sound _ ph runLeaseRetire_sound s
  case noticeTake ph => exact hostCommand_sound _ ph runNoticeTake_sound s
  case slotRead ph => exact hostCommand_sound _ ph runSlotRead_sound s
  case slotReserve ph => exact hostCommand_sound _ ph runSlotReserve_sound s
  case slotRelease ph => exact hostCommand_sound _ ph runSlotRelease_sound s
  case leaseMove ph => exact hostCommand_sound _ ph runLeaseMove_sound s
  case poolRead ph => exact hostCommand_sound _ ph runPoolRead_sound s
  case poolSet ph => exact hostCommand_sound _ ph runPoolSet_sound s
  case monitorSet ph => exact hostCommand_sound _ ph runMonitorSet_sound s
  case monitorClear ph => exact hostCommand_sound _ ph runMonitorClear_sound s
  case groupRead ph => exact hostCommand_sound _ ph runGroupRead_sound s
  case groupWrite ph => exact hostCommand_sound _ ph runGroupWrite_sound s
  case listenerRead ph => exact hostCommand_sound _ ph runListenerRead_sound s
  case portRead ph => exact hostCommand_sound _ ph runPortRead_sound s
  case portSet ph => exact hostCommand_sound _ ph runPortSet_sound s
  case meterRead ph => exact hostCommand_sound _ ph runMeterRead_sound s
  case meterSet ph => exact hostCommand_sound _ ph runMeterSet_sound s
  case countersRead ph => exact hostCommand_sound _ ph runCountersRead_sound s
  case highwayRead ph => exact hostCommand_sound _ ph runHighwayRead_sound s
  case highwaySet ph => exact hostCommand_sound _ ph runHighwaySet_sound s
  case sweepRead ph => exact hostCommand_sound _ ph runSweepRead_sound s
  case sweepSet ph => exact hostCommand_sound _ ph runSweepSet_sound s
  case refusalRead ph => exact hostCommand_sound _ ph runRefusalRead_sound s
  case retireScope ph => exact retireScopeStep_sound ph s
  case walkVisit => exact walkVisitStep_sound s
  case abort => exact abortStep_sound s
  case walkEnding => exact walkEndingStep_sound s
  case softReset => exact softResetStep_sound s
  case unknownCommand w => exact unknownCommandStep_sound w s
  case collision w => exact collisionStep_sound w s
  case istatRead => exact .stay rfl rfl rfl rfl rfl
  case istatWrite w => exact istatWriteStep_sound w s
  case ienWrite w => exact ienWriteStep_sound w s
  case registerWrite n w => exact registerWriteStep_sound n w s
  case headerByteInGather p b => exact headerInGatherStep_sound p b s
  case messageComplete p b => exact messageCompleteStep_sound p b s
  case serving => exact servingStep_sound s
  case replySent p => exact replySentStep_sound p s
  case lineFrame p rx alarm pulse cch => exact lineFrameStep_sound p rx alarm pulse cch s
  case frameStart => exact frameStartStep_sound s
  case committedRefill p => exact refillStep_sound refillCommitted_buckets p s
  case excessRefill p => exact refillStep_sound refillExcess_buckets p s
  case faultAsserted p => exact faultLevelStep_sound p true s
  case faultCleared p => exact faultLevelStep_sound p false s
  case holdExpiry p => exact holdExpiryStep_sound p s
  case recoveryExpiry p => exact recoveryExpiryStep_sound p s
  case sweepTick => exact sweepTickStep_sound s
  case lost p => exact lostStep_sound p s
  case quarantinePhase => exact quarantinePhaseStep_sound s
  case guardExpiry sl => exact guardExpiryStep_sound sl s
  case sweepVisit => exact sweepVisitStep_sound s
  case leaseExpiry => exact leaseExpiryStep_sound s
  case highwayPulse t hwIn => exact highwayPulseStep_sound t hwIn s
  case pulseMissing hwIn => exact pulseMissingStep_sound hwIn s
  case holdAsserted => exact .stay rfl rfl rfl rfl rfl
  case holdReleased => exact ⟨fun _ => .refl _ _, id, fun hx => (resubmit_overrun s.swt).trans_le hx, rfl⟩
  case resetAsserted => exact held_sound s
  case resetReleased => exact .stay rfl rfl rfl rfl rfl
  case headerByteInHunt p b => exact headerInHuntStep_sound p b s
  case continuationByteInGather p b => exact continuationInGatherStep_sound p b s

/-- A step is one row on the state that the command at the front has left, or idles. -/
theorem step_port {s t : State} (h : step s = .next t) :
    (∀ p : PortNo, PortChange s.psw.formats[p] s.ports[p] t.psw.formats[p] t.ports[p]) ∧
      (s.hwi.realign ≤ 65535 → t.hwi.realign ≤ 65535) ∧ (s.swt.overrun ≤ 65535 → t.swt.overrun ≤ 65535) := by
  unfold step at h
  split at h
  · obtain rfl := Host.Outcome.next.inj h
    exact ⟨fun _ => .refl _ _, id, id⟩
  · have hsound := exec_sound h
    exact ⟨hsound.port, hsound.realign, hsound.overrun⟩

/-- Settles O52: each row keeps each port's capacities and the two part-wide counters. -/
theorem capacitiesKept : Obligations.CapacitiesKept := by
  intro s t h hstep
  obtain ⟨hport, hrealign, hoverrun⟩ := step_port hstep
  exact ⟨fun p => (hport p).bounded (h.port p), hrealign h.realign, hoverrun h.overrun⟩

/-- Settles O53: each row keeps each port's silence. -/
theorem shutPortsStayEmpty : Obligations.ShutPortsStayEmpty := by
  intro s t h hstep
  have hshut (p : PortNo) : ShutPort t.psw.formats[p] t.ports[p] := ((step_port hstep).1 p).shut ⟨h.silent p, h.reformatted p⟩
  exact ⟨fun p => (hshut p).silent, fun p => (hshut p).reformatted⟩

/-- Settles O2: each row answers a next state, and no change that a row makes touches the queue. -/
theorem everyCommandAnswers : Obligations.EveryCommandAnswers := by
  intro c s
  obtain ⟨t, ht⟩ : ∃ t, exec c s = .next t := by cases c <;> exact ⟨_, rfl⟩
  exact ⟨t, ht, (exec_sound ht).pending⟩

/-- Settles O1, by the definition of a step. -/
theorem stepTakesFront : Obligations.StepTakesFront := by
  refine ⟨fun c rest s => rfl, fun s h => ?_⟩
  unfold step
  rw [h]

end Sys2Proof.Spec
end

section
/-! PROOF. The write of CMD (R169, R171): the forms of a host command by its row, and O3. -/

namespace Sys2Proof.Spec

open Sys2Proof.Machine

/-- A command whose three forms are those of a single command (log 5): not the walk's, ABORT or SOFT_RESET. -/
def Plain (c : HostCmd) : Prop := c ≠ .retireScope ∧ c ≠ .abort ∧ c ≠ .softReset

/-- The row of such a command runs its operation in the form given. -/
theorem exec_hostRow {c : HostCmd} (h : Plain c) :
    ∃ run : State → State, ∀ (ph : Phase) (s : State), exec (hostRow c ph) s = .next (hostCommand c ph run s) := by
  obtain ⟨hr, ha, hs⟩ := h
  cases c with
  | retireScope => exact absurd rfl hr
  | abort => exact absurd rfl ha
  | softReset => exact absurd rfl hs
  | _ => exact ⟨_, fun _ _ => rfl⟩

theorem commandOf_abort : commandOf 0x31 = some .abort := commandOf_listed (n := 0x31) (by decide)

theorem commandOf_softReset : commandOf 0x3E = some .softReset := commandOf_listed (n := 0x3E) (by decide)

/-- ABORT written to CMD by its code. -/
theorem exec_write_abort {s : State} (h : s.pins.reset = false) : exec (hostRow .abort .write) s = .next s.writeAbort := by
  have hrow : exec (hostRow .abort .write) s = .next (commandWriteStep 0x31 s) := rfl
  rw [hrow]
  simp only [commandWriteStep, commandOf_abort, h, Bool.false_eq_true, if_false]

/-- SOFT_RESET written to CMD by its code. -/
theorem exec_write_softReset {s : State} (h : s.pins.reset = false) :
    exec (hostRow .softReset .write) s = .next s.writeReset := by
  have hrow : exec (hostRow .softReset .write) s = .next (commandWriteStep 0x3E s) := rfl
  rw [hrow]
  simp only [commandWriteStep, commandOf_softReset, h, Bool.false_eq_true, if_false]

theorem busy_of_inProgress {s : State} (h : s.cpt.inProgress ≠ none) : s.busy = true :=
  Option.isSome_iff_ne_none.mpr h

/-- BUSY is 0 while no command is in progress. -/
theorem not_busy {s : State} (h : s.cpt.inProgress = none) : s.busy = false := by rw [State.busy, h]; rfl

theorem not_walkInProgress {s : State} (h : s.cpt.inProgress ≠ some .retireScope) : s.walkInProgress = false := by
  rw [← Bool.not_eq_true, State.walkInProgress_iff]
  exact h

/-! ### Collisions -/

theorem writeAbort_collides {s : State} (hbusy : s.cpt.inProgress ≠ none) (hwalk : s.cpt.inProgress ≠ some .retireScope) :
    s.writeAbort = s.collided := by
  rw [State.writeAbort, if_pos (busy_of_inProgress hbusy), State.abortBusy, not_walkInProgress hwalk]
  rfl

theorem writeReset_collides {s : State} (hbusy : s.cpt.inProgress ≠ none) (hwalk : s.cpt.inProgress ≠ some .retireScope) :
    s.writeReset = s.collided := by
  rw [State.writeReset, if_pos (busy_of_inProgress hbusy), not_walkInProgress hwalk]
  rfl

/-- A SOFT_RESET that is not in progress cannot be taken. -/
theorem not_resetReady {s : State} (h : s.cpt.inProgress ≠ some .softReset) : s.resetReady = false := by
  rw [← Bool.not_eq_true, State.resetReady_iff]
  exact fun hx => h hx.1

theorem abortStep_collides {s : State} (hreset : s.pins.reset = false) (hbusy : s.cpt.inProgress ≠ none)
    (hwalk : s.cpt.inProgress ≠ some .retireScope) (habort : s.cpt.inProgress ≠ some .abort) : abortStep s = s.collided := by
  have htake : s.collided.takeAbort = s.collided := if_neg habort
  rw [abortStep, if_neg (by rw [hreset]; exact Bool.false_ne_true), if_neg habort, writeAbort_collides hbusy hwalk, htake]

theorem softResetStep_collides {s : State} (hreset : s.pins.reset = false) (hbusy : s.cpt.inProgress ≠ none)
    (hwalk : s.cpt.inProgress ≠ some .retireScope) (hsoft : s.cpt.inProgress ≠ some .softReset) :
    softResetStep s = s.collided := by
  have htake : s.collided.takeReset = s.collided := by
    rw [State.takeReset, not_resetReady (s := s.collided) hsoft]
    rfl
  rw [softResetStep, if_neg (by rw [hreset]; exact Bool.false_ne_true), not_resetReady hsoft, if_neg Bool.false_ne_true,
    writeReset_collides hbusy hwalk, htake]

theorem retireScope_collides {s : State} {ph : Phase} (hreset : s.pins.reset = false) (hbusy : s.cpt.inProgress ≠ none)
    (hph : ph ≠ .take) : retireScopeStep ph s = s.collided := by
  unfold retireScopeStep
  rw [if_neg (by rw [hreset]; exact Bool.false_ne_true)]
  cases ph with
  | take => exact absurd rfl hph
  | whole => exact if_pos (busy_of_inProgress hbusy)
  | write => exact if_pos (busy_of_inProgress hbusy)

/-- The two forms that write CMD collide with BUSY 1, outside the exceptions of R171. -/
theorem hostRow_collides {c : HostCmd} {s : State} (hreset : s.pins.reset = false) (hbusy : s.cpt.inProgress ≠ none)
    (hexcept : s.cpt.inProgress ≠ some .retireScope ∨ (c ≠ .abort ∧ c ≠ .softReset)) :
    exec (hostRow c .write) s = .next s.collided ∧
      (s.cpt.inProgress ≠ some c ∨ (c ≠ .abort ∧ c ≠ .softReset) → exec (hostRow c .whole) s = .next s.collided) := by
  by_cases ha : c = .abort
  · subst ha
    have hwalk := hexcept.resolve_right fun hx => hx.1 rfl
    refine ⟨?_, fun hc => congrArg _ (abortStep_collides hreset hbusy hwalk (hc.resolve_right fun hx => hx.1 rfl))⟩
    rw [exec_write_abort hreset, writeAbort_collides hbusy hwalk]
  by_cases hs : c = .softReset
  · subst hs
    have hwalk := hexcept.resolve_right fun hx => hx.2 rfl
    refine ⟨?_, fun hc => congrArg _ (softResetStep_collides hreset hbusy hwalk (hc.resolve_right fun hx => hx.2 rfl))⟩
    rw [exec_write_softReset hreset, writeReset_collides hbusy hwalk]
  by_cases hr : c = .retireScope
  · subst hr
    have hwrite := retireScope_collides (ph := .write) hreset hbusy (by decide)
    have hwhole := retireScope_collides (ph := .whole) hreset hbusy (by decide)
    exact ⟨congrArg Host.Outcome.next hwrite, fun _ => congrArg Host.Outcome.next hwhole⟩
  · obtain ⟨run, hrun⟩ := exec_hostRow (c := c) ⟨hr, ha, hs⟩
    rw [hrun, hrun, hostCommand_collides (ph := .write) c run hreset hbusy (by decide),
      hostCommand_collides (ph := .whole) c run hreset hbusy (by decide)]
    exact ⟨rfl, fun _ => rfl⟩

theorem collisionStep_collides {s : State} {w : Word} (hreset : s.pins.reset = false) (hbusy : s.cpt.inProgress ≠ none)
    (hexcept : s.cpt.inProgress ≠ some .retireScope ∨ (w ≠ 0x31 ∧ w ≠ 0x3E)) : collisionStep w s = s.collided := by
  have hcollides : s.collides w = true := by
    rw [State.collides, busy_of_inProgress hbusy]
    obtain hwalk | ⟨ha, hs⟩ := hexcept
    · rw [not_walkInProgress hwalk]
      rfl
    · have hnone : (w == abortCode || w == softResetCode) = false :=
        Bool.or_eq_false_iff.mpr ⟨beq_false_of_ne ha, beq_false_of_ne hs⟩
      rw [hnone, Bool.and_false]
      rfl
  rw [collisionStep, if_neg (by rw [hreset]; exact Bool.false_ne_true), if_pos hcollides]

/-! ### Writes with BUSY 0, and takings -/

theorem hostRow_write {c : HostCmd} {s : State} (hreset : s.pins.reset = false) (hidle : s.cpt.inProgress = none)
    (hr : c ≠ .retireScope) (hs : c ≠ .softReset) : exec (hostRow c .write) s = .next (s.taken c) := by
  by_cases ha : c = .abort
  · subst ha
    rw [exec_write_abort hreset, State.writeAbort_idle hidle]
  · obtain ⟨run, hrun⟩ := exec_hostRow (c := c) ⟨hr, ha, hs⟩
    rw [hrun, hostCommand_write c run hreset hidle]

theorem retireScope_write {s : State} (hreset : s.pins.reset = false) (hidle : s.cpt.inProgress = none) :
    retireScopeStep .write s = s.takenWalk := by
  rw [retireScopeStep, if_neg (by rw [hreset]; exact Bool.false_ne_true)]
  exact if_neg (by rw [not_busy hidle]; exact Bool.false_ne_true)

theorem retireScope_take_idle {s : State} (hstart : s.cpt.walker.starting = false) : retireScopeStep .take s = s := by
  unfold retireScopeStep
  split
  · rfl
  · dsimp only
    rw [hstart]
    rfl

/-- Settles O3, clause by clause: the writes with BUSY 0, the collisions, and the takings of what is not in progress. -/
theorem writeOfCommand : Obligations.WriteOfCommand := by
  intro s hreset
  refine ⟨fun c hidle hr hs => hostRow_write hreset hidle hr hs, fun hidle => ?softReset, fun hidle => ?retireScope,
    fun c hbusy hexcept => hostRow_collides hreset hbusy hexcept, fun w hbusy hexcept => ?collision,
    fun c hc hr ha hs => ?take, fun hstart => congrArg _ (retireScope_take_idle hstart)⟩
  case softReset =>
    rw [exec_write_softReset hreset, State.writeReset_idle hidle]
    rfl
  case retireScope => exact congrArg _ (retireScope_write hreset hidle)
  case collision => exact congrArg _ (collisionStep_collides hreset hbusy hexcept)
  case take =>
    obtain ⟨run, hrun⟩ := exec_hostRow (c := c) ⟨hr, ha, hs⟩
    rw [hrun, hostCommand_idle c run hc]

end Sys2Proof.Spec
end

section
/-! PROOF. What the host commands share: the parts of the state a taken command runs on, the completion after each kind of
update, and the result words of the records (R23, R169, R170, R189; 12 §12.5). -/

namespace Sys2Proof.Spec

open Sys2Proof.Machine

/-! ### The state a command runs on -/

@[simp] theorem atRun_ports (c : HostCmd) (ph : Phase) (s : State) : (atRun c ph s).ports = s.ports := by
  cases ph <;> rfl

@[simp] theorem atRun_hwi (c : HostCmd) (ph : Phase) (s : State) : (atRun c ph s).hwi = s.hwi := by
  cases ph <;> rfl

@[simp] theorem atRun_swt (c : HostCmd) (ph : Phase) (s : State) : (atRun c ph s).swt = s.swt := by
  cases ph <;> rfl

@[simp] theorem atRun_ntu (c : HostCmd) (ph : Phase) (s : State) : (atRun c ph s).ntu = s.ntu := by
  cases ph <;> rfl

@[simp] theorem atRun_pins (c : HostCmd) (ph : Phase) (s : State) : (atRun c ph s).pins = s.pins := by
  cases ph <;> rfl

@[simp] theorem atRun_scope (c : HostCmd) (ph : Phase) (s : State) : (atRun c ph s).scope = s.cpt.walker.scope := by
  cases ph <;> rfl

theorem bit_atRun_arg (c : HostCmd) (ph : Phase) (s : State) (i : Fin 4) (b : Nat) :
    ((atRun c ph s).arg i).getLsbD b = argBit ph s i b := by
  rw [atRun_arg]
  rfl

/-! ### Completions -/

/-- A setting event of the statements is the model's (R162, R163). -/
theorem raise_eq_event (n : Ntu) (b : StatusBit) : n.raise b = event b.index n := by
  cases b <;> rfl

/-- Placing replies and raising TAP comes before or after the taking alike. -/
theorem afterTables_atRun (c : HostCmd) (ph : Phase) (s : State) (serving : Option PortNo) (o : TableOp) :
    (atRun c ph s).afterTables serving o = atRun c ph (s.afterTables serving o) := by
  unfold State.afterTables State.raiseIf
  cases o.tapEnded <;> cases ph <;> rfl

theorem done_afterTables (ph : Phase) (s : State) (serving : Option PortNo) (o : TableOp) (c : HostCmd) (code : ResultCode)
    (w0 w1 w2 w3 : Word) :
    ((atRun c ph s).afterTables serving o).complete code w0 w1 w2 w3 = done ph code w0 w1 w2 w3 (s.afterTables serving o) := by
  rw [afterTables_atRun, complete_atRun]

theorem complete_atRun_withPort (c : HostCmd) (ph : Phase) (s : State) (p : PortNo) (x : Port) (code : ResultCode)
    (w0 w1 w2 w3 : Word) :
    ((atRun c ph s).setPort p x).complete code w0 w1 w2 w3 = done ph code w0 w1 w2 w3 (withPort s p x) := by
  cases ph <;> rfl

theorem complete_atRun_cmt (c : HostCmd) (ph : Phase) (s : State) (p : PortNo) (m : Cmt) (code : ResultCode)
    (w0 w1 w2 w3 : Word) :
    ((atRun c ph s).setCmt p m).complete code w0 w1 w2 w3 =
      done ph code w0 w1 w2 w3 (withPort s p { s.ports[p] with cmt := m }) := by
  cases ph <;> rfl

theorem complete_atRun_cch (c : HostCmd) (ph : Phase) (s : State) (p : PortNo) (x : Cch) (code : ResultCode)
    (w0 w1 w2 w3 : Word) :
    ((atRun c ph s).setCch p x).complete code w0 w1 w2 w3 =
      done ph code w0 w1 w2 w3 (withPort s p { s.ports[p] with cch := x }) := by
  cases ph <;> rfl

theorem complete_atRun_hwi (c : HostCmd) (ph : Phase) (s : State) (h : Hwi) (code : ResultCode) (w0 w1 w2 w3 : Word) :
    { atRun c ph s with hwi := h }.complete code w0 w1 w2 w3 = done ph code w0 w1 w2 w3 { s with hwi := h } := by
  cases ph <;> rfl

theorem complete_atRun_swt (c : HostCmd) (ph : Phase) (s : State) (t : Swt) (code : ResultCode) (w0 w1 w2 w3 : Word) :
    { atRun c ph s with swt := t }.complete code w0 w1 w2 w3 = done ph code w0 w1 w2 w3 { s with swt := t } := by
  cases ph <;> rfl

theorem complete_atRun_ntu (c : HostCmd) (ph : Phase) (s : State) (n : Ntu) (code : ResultCode) (w0 w1 w2 w3 : Word) :
    { atRun c ph s with ntu := n }.complete code w0 w1 w2 w3 = done ph code w0 w1 w2 w3 { s with ntu := n } := by
  cases ph <;> rfl

/-! ### Codes (R189) -/

theorem stateCode_eq_toCode (st : LeaseState) : stateCode st = st.toCode := by
  cases st <;> rfl

theorem bit_eq_flag (b : Bool) : bit b = flag b := rfl

theorem code_leaseKind (k : LeaseKind) : code [LeaseKind.duplex, .talk, .listen] k = k.toCode := by
  cases k <;> rfl

theorem code_origin (o : Origin) : code [Origin.signaled, .host] o = o.toCode := by
  cases o <;> rfl

/-- The code of an absent cause is 0. -/
theorem code_cause (c : Option RetireCause) :
    code [none, some RetireCause.lineRelease, some .host, some .scope, some .expired, some .preempted, some .linkLost] c =
      (c.map RetireCause.toCode).getD 0 := by
  obtain _ | c := c
  · rfl
  · cases c <;> rfl

/-! ### Result words (12 §12.5) -/

/-- A word by its fields is the number they add up to. -/
theorem fields_eq_word {fs : List (Nat × Nat)} {n : Nat} (h : fs.foldr (fun f n => f.2 * 2 ^ f.1 + n) 0 = n) :
    fields fs = word n :=
  congrArg (BitVec.ofNat 16) h

theorem leaseWord_eq (r : Lease) : leaseWord r = r.word0 := by
  rw [leaseWord, Lease.word0, stateCode_eq_toCode, code_leaseKind, code_origin, bit_eq_flag]
  exact fields_eq_word (by simp only [List.foldr]; omega)

theorem slotWord_eq (r : Lease) : slotWord r = r.word1 := by
  rw [slotWord, Lease.word1, numberOr_eq_orNone, fields_bytes]

theorem groupWord_eq (r : Lease) : groupWord r = r.word3 := by
  rw [groupWord, Lease.word3, code_cause]
  exact fields_eq_word (by simp only [List.foldr]; omega)

theorem tagAndCode_eq (r : Lease) :
    fields [(13, bit r.tag.isSome), (9, numberOr r.tag 0), (8, bit r.code.isSome), (0, (r.code.getD 0).toNat)] =
      r.word2 := by
  have hcode : (r.code.getD 0).toNat = (r.code.map BitVec.toNat).getD 0 := by cases r.code <;> rfl
  rw [Lease.word2, Lease.tagBits, numberOr_eq_orNone, bit_eq_flag, bit_eq_flag, hcode]
  exact fields_eq_word (by simp only [List.foldr]; omega)

theorem tagAndNumber_eq (r : Lease) (l : LeaseNo) :
    fields [(13, bit r.tag.isSome), (9, numberOr r.tag 0), (0, l.val)] = r.noticeWord2 l := by
  rw [Lease.noticeWord2, Lease.tagBits, numberOr_eq_orNone, bit_eq_flag]
  exact fields_eq_word (by simp only [List.foldr]; omega)

end Sys2Proof.Spec
end

section
/-! PROOF. LEASE_READ, LEASE_MODIFY, LEASE_RETIRE and NOTICE_TAKE (R23, R26, R27, R159): O4, O6, O7 and O8. -/

namespace Sys2Proof.Spec

open Sys2Proof.Machine

/-! ### LEASE_READ -/

theorem exec_leaseRead {ph : Phase} {s : State} (h : Ready .leaseRead ph s) :
    exec (.leaseRead ph) s = .next (runLeaseRead (atRun .leaseRead ph s)) :=
  congrArg Host.Outcome.next (hostCommand_ready runLeaseRead h)

/-- Settles O4: the four words of the record, or BAD_ARG. -/
theorem leaseReadReportsRecord : Obligations.LeaseReadReportsRecord := by
  intro ph s h
  rw [exec_leaseRead h]
  refine ⟨fun l hl => congrArg _ ?_, fun hout => congrArg _ ?_⟩
  · simp only [runLeaseRead, toNat_atRun_arg, below_some l hl, atRun_lsv, complete_atRun, leaseWord_eq, slotWord_eq,
      tagAndCode_eq, groupWord_eq]
  · simp only [runLeaseRead, toNat_atRun_arg, below_none (n := 128) hout, completeBare_atRun]

/-! ### Live records -/

/-- The model's test for a live record is that of the statements (01 §1.1). -/
theorem live_iff (r : Lease) : r.live = true ↔ Live r := Lease.live_iff r

theorem live_eq_false_iff (r : Lease) : r.live = false ↔ ¬ Live r := by
  rw [← live_iff, Bool.not_eq_true]

/-! ### LEASE_MODIFY -/

theorem exec_leaseModify {ph : Phase} {s : State} (h : Ready .leaseModify ph s) :
    exec (.leaseModify ph) s = .next (runLeaseModify (atRun .leaseModify ph s)) :=
  congrArg Host.Outcome.next (hostCommand_ready runLeaseModify h)

/-- The record of a LEASE_MODIFY is that of the statements. -/
theorem modified_eq (r : Lease) (q : ClassNo) (pinned : Bool) (x : Option Byte) :
    r.modified q pinned x =
      { r with
        cls := q, pinned := pinned, code := x
        idle := if r.pinned = true ∧ pinned = false then 0 else r.idle } := by
  cases hp : r.pinned <;> cases pinned <;> simp only [Lease.modified, hp] <;> rfl

theorem runLeaseModify_badArg {s : State} {l : LeaseNo} (hl : (s.arg 0).toNat = l.val) (hlive : s.lsv.leases[l].live = true)
    (h : 3 < hi (s.arg 1) ∨ 1 < hi (s.arg 2)) : runLeaseModify s = s.completeBare .badArg := by
  simp only [runLeaseModify, below_some l hl, hlive, Bool.not_true, Bool.false_eq_true, if_false]
  obtain h | h := h
  · rw [below_none (n := 4) h]
  · rw [below_none (n := 2) h]
    cases below 4 (hi (s.arg 1)) <;> rfl

theorem runLeaseModify_ok {s : State} {l : LeaseNo} {q : ClassNo} {action : Fin 2} (hl : (s.arg 0).toNat = l.val)
    (hlive : s.lsv.leases[l].live = true) (hq : hi (s.arg 1) = q.val) (ha : hi (s.arg 2) = action.val) :
    runLeaseModify s =
      { s with lsv := s.lsv.setLease l (s.lsv.leases[l].modified q ((s.arg 1).getLsbD 0)
        (if action = 1 then some (byteOf (lo (s.arg 2))) else none)) }.completeBare .ok := by
  simp only [runLeaseModify, below_some l hl, hlive, below_some q hq, below_some action ha, Bool.not_true,
    Bool.false_eq_true, if_false]

/-- Settles O6, by the state of the record and the ranges of the class and the action. -/
theorem leaseModifyReplacesAttributes : Obligations.LeaseModifyReplacesAttributes := by
  intro ph s h
  rw [exec_leaseModify h]
  refine ⟨fun hout => congrArg _ ?_, fun l hl => ⟨fun hdead => congrArg _ ?_, fun hlive hout => congrArg _ ?_,
    fun q hlive hq ha => congrArg _ ?_⟩⟩
  · simp only [runLeaseModify, toNat_atRun_arg, below_none (n := 128) hout, completeBare_atRun]
  · simp only [runLeaseModify, toNat_atRun_arg, below_some l hl, atRun_lsv, (live_eq_false_iff _).mpr hdead, Bool.not_false,
      if_true, completeBare_atRun]
  · rw [← hi_atRun_arg .leaseModify, ← hi_atRun_arg .leaseModify] at hout
    rw [← toNat_atRun_arg .leaseModify] at hl
    rw [← atRun_lsv .leaseModify ph s, ← live_iff] at hlive
    rw [runLeaseModify_badArg hl hlive hout, completeBare_atRun]
  · have haction : hi ((atRun .leaseModify ph s).arg 2) = (⟨argHigh ph s 2, by omega⟩ : Fin 2).val := hi_atRun_arg ..
    rw [← hi_atRun_arg .leaseModify] at hq
    rw [← toNat_atRun_arg .leaseModify] at hl
    rw [← atRun_lsv .leaseModify ph s, ← live_iff] at hlive
    rw [runLeaseModify_ok hl hlive hq haction, State.completeBare, complete_atRun_withTables, modified_eq]
    simp only [atRun_lsv, bit_atRun_arg, lo_atRun_arg, Fin.ext_iff, Fin.val_one]
    rfl

/-! ### LEASE_RETIRE -/

theorem exec_leaseRetire {ph : Phase} {s : State} (h : Ready .leaseRetire ph s) :
    exec (.leaseRetire ph) s = .next (runLeaseRetire (atRun .leaseRetire ph s)) :=
  congrArg Host.Outcome.next (hostCommand_ready runLeaseRetire h)

/-- A live record: the retirement, and the purge if it is asked for. -/
theorem runLeaseRetire_live {s : State} {l : LeaseNo} (hl : (s.arg 0).toNat = l.val) (hlive : s.lsv.leases[l].live = true) :
    runLeaseRetire s =
      ((s.afterTables none (s.lsv.retire s.scope .host false l)).purgeIf ((s.arg 1).getLsbD 0) l).completeRetire .ok l := by
  simp only [runLeaseRetire, below_some l hl]
  rcases (Lease.live_iff _).mp hlive with hst | hst | hst <;> rw [hst]

theorem runLeaseRetire_retired {s : State} {l : LeaseNo} (hl : (s.arg 0).toNat = l.val)
    (hst : s.lsv.leases[l].state = .retired) :
    runLeaseRetire s =
      if (s.arg 1).getLsbD 0 then (s.purgeIf true l).completeRetire .ok l else s.completeRetire .notLive l := by
  simp only [runLeaseRetire, below_some l hl, hst]

theorem runLeaseRetire_free {s : State} {l : LeaseNo} (hl : (s.arg 0).toNat = l.val)
    (hst : s.lsv.leases[l].state = .free) : runLeaseRetire s = s.completeRetire .notLive l := by
  simp only [runLeaseRetire, below_some l hl, hst]

/-- A purged record is FREE: the completion reports code 0. -/
theorem completeRetire_purged (c : HostCmd) (ph : Phase) (s : State) (l : LeaseNo) :
    ((atRun c ph s).purgeIf true l).completeRetire .ok l =
      done0 ph .ok (withTables s { s.lsv with
        leases := upd s.lsv.leases l Lease.cleared, attention := s.lsv.attention.erase l }) := by
  have hstate : ((atRun c ph s).purgeIf true l).lsv.leases[l] = Lease.cleared := upd_get_self _ _ _
  rw [State.completeRetire, hstate, State.purgeIf, if_pos rfl, complete_atRun_withTables, atRun_lsv]
  rfl

/-- A command that leaves the tables as they are reports the state that the record has. -/
theorem completeRetire_kept (c : HostCmd) (ph : Phase) (s : State) (code : ResultCode) (l : LeaseNo) :
    (atRun c ph s).completeRetire code l = done ph code (fields [(0, stateCode s.lsv.leases[l].state)]) 0 0 0 s := by
  rw [State.completeRetire, complete_atRun, atRun_lsv, fields_number, stateCode_eq_toCode]

/-- Settles O7, by the state of the record and the purge flag. -/
theorem leaseRetireByState : Obligations.LeaseRetireByState := by
  intro ph s h
  rw [exec_leaseRetire h]
  refine ⟨fun hout => congrArg _ ?_, fun l hl => ?_⟩
  · simp only [runLeaseRetire, toNat_atRun_arg, below_none (n := 128) hout, completeBare_atRun]
  rw [← toNat_atRun_arg .leaseRetire] at hl
  rw [← bit_atRun_arg .leaseRetire ph s 1 0]
  have hlive (hl' : Live s.lsv.leases[l]) : (atRun .leaseRetire ph s).lsv.leases[l].live = true := by
    rw [atRun_lsv, live_iff]
    exact hl'
  have hstate {st : LeaseState} (hst : s.lsv.leases[l].state = st) :
      (atRun .leaseRetire ph s).lsv.leases[l].state = st := by rw [atRun_lsv, hst]
  refine ⟨fun hl' hp => congrArg _ ?_, fun hl' hp t ht => congrArg _ ?_, fun hst hp => congrArg _ ?_,
    fun hst hp => congrArg _ ?_, fun hst => congrArg _ ?_⟩
  · rw [runLeaseRetire_live hl (hlive hl'), hp, afterTables_atRun, atRun_scope, atRun_lsv, State.purgeIf,
      if_neg Bool.false_ne_true, completeRetire_kept, State.afterTables_lsv]
  · rw [runLeaseRetire_live hl (hlive hl'), hp, afterTables_atRun, atRun_scope, atRun_lsv, completeRetire_purged, ht]
  · rw [runLeaseRetire_retired hl (hstate hst), hp, if_pos rfl, completeRetire_purged]
  · rw [runLeaseRetire_retired hl (hstate hst), hp, if_neg Bool.false_ne_true, completeRetire_kept, hst]
    rfl
  · rw [runLeaseRetire_free hl (hstate hst), completeRetire_kept, hst]
    rfl

/-! ### NOTICE_TAKE -/

theorem exec_noticeTake {ph : Phase} {s : State} (h : Ready .noticeTake ph s) :
    exec (.noticeTake ph) s = .next (runNoticeTake (atRun .noticeTake ph s)) :=
  congrArg Host.Outcome.next (hostCommand_ready runNoticeTake h)

/-- Settles O8: EMPTY, or the head of the attention list. -/
theorem noticeTakeServesHead : Obligations.NoticeTakeServesHead := by
  intro ph s h
  rw [exec_noticeTake h]
  refine ⟨fun hempty => congrArg _ ?_, fun l rest hhead => congrArg _ ?_⟩
  · simp only [runNoticeTake, atRun_lsv, hempty, completeBare_atRun]
  · simp only [runNoticeTake, atRun_lsv, hhead, complete_atRun_withTables, leaseWord_eq, slotWord_eq, tagAndNumber_eq,
      groupWord_eq]
    rfl

end Sys2Proof.Spec
end

section
/-! PROOF. LEASE_MOVE (R41, R42) and O9. -/

namespace Sys2Proof.Spec

open Sys2Proof.Machine

/-! ### Slot arguments and the checks of R41 -/

theorem slotArg_named {x : Nat} (sl : SlotNo) (h : x = sl.val) : slotArg x = some (.named sl) := by
  have hx : x ≠ 0xFF := by omega
  rw [slotArg, if_neg hx, below_some sl h]
  rfl

theorem slotArg_pool {x : Nat} (h : x = 0xFF) : slotArg x = some .pool := if_pos h

theorem slotArg_none {x : Nat} (h : 127 < x) (hpool : x ≠ 0xFF) : slotArg x = none := by
  rw [slotArg, if_neg hpool, below_none h]
  rfl

/-- A number that is a slot or POOL reads as a slot argument. -/
theorem slotArg_isSome {x : Nat} (h : x ≤ 127 ∨ x = 0xFF) : ∃ a, slotArg x = some a := by
  obtain h | h := h
  · exact ⟨_, slotArg_named ⟨x, by omega⟩ rfl⟩
  · exact ⟨_, slotArg_pool h⟩

/-- The refusals of a slot named, in their order (R24 rows 9 to 11, R41 rows 5 to 7). -/
theorem slotRefusal_named (v : Lsv) (sl : SlotNo) :
    v.slotRefusal (.named sl) =
      if v.tap.state = .on ∧ v.tap.target = some sl then some .tapBusy
      else if v.slots[sl].state = .quarantine then some .slotGuard
      else if v.slots[sl].state = .held then some .inUse
      else none := by
  by_cases ht : v.tap.state = .on ∧ v.tap.target = some sl
  · rw [if_pos ht, Lsv.slotRefusal, if_pos ((tapTarget_iff v sl).mpr ht)]
  · rw [if_neg ht, Lsv.slotRefusal, if_neg (mt (tapTarget_iff v sl).mp ht)]
    cases hst : v.slots[sl].state <;> rfl

/-! ### The move -/

/-- A move takes the new slot and gives up the old one by its home. -/
theorem moveLease_moved {v : Lsv} {l : LeaseNo} {o sl : SlotNo} (hslot : v.leases[l].slot = some o)
    (hheld : v.slots[o].state = .held)
    (hsl : v.slots[sl].state = .free ∨ v.slots[sl].state = .reserved) : Moved v (v.moveLease l sl) l o sl := by
  have hne : sl ≠ o := fun h => by
    rw [h, hheld] at hsl
    exact hsl.elim nofun nofun
  have hold (x : SlotRec) : (upd v.slots sl x)[o] = v.slots[o] := upd_get_other _ hne _
  have htaken : ∃ (home : Home) (free : List SlotNo),
      ((v.slots[sl].state = .free ∧ home = .pool ∧ free = v.freeList.erase sl) ∨
        (v.slots[sl].state = .reserved ∧ home = .reserved ∧ free = v.freeList)) ∧
      v.takeSlot sl l = { v with
        slots := upd v.slots sl { state := .held, home := some home, holder := some l, guard := none }
        freeList := free } := by
    obtain hst | hst := hsl
    · exact ⟨_, _, .inl ⟨hst, rfl, rfl⟩, if_neg (by rw [hst]; exact nofun)⟩
    · exact ⟨_, _, .inr ⟨hst, rfl, rfl⟩, if_pos hst⟩
  obtain ⟨home, free, hcases, htake⟩ := htaken
  refine ⟨home, free, _, hcases, rfl, fun hr => ?_, fun hp hguard => ?_, fun hp hguard => ?_⟩
  · rw [Lsv.moveLease, htake, leaveSlot_reserved hslot ((congrArg SlotRec.home (hold _)).trans hr)]
    rfl
  · rw [Lsv.moveLease, htake, leaveSlot_pool hslot ((congrArg SlotRec.home (hold _)).trans hp)]
    exact Lsv.toPool_guarded (by exact hguard) o
  · rw [Lsv.moveLease, htake, leaveSlot_pool hslot ((congrArg SlotRec.home (hold _)).trans hp)]
    exact Lsv.toPool_unguarded (by exact hguard) o

/-- The STATUS of a move is that of the statements (R42, R86). -/
theorem moveReply_eq (r : Lease) (sl : SlotNo) :
    r.moveReply sl =
      if r.origin = .signaled then
        [{ port := r.port
           reply := {
             kind := .status, tag := r.tag.getD 0, second := r.state.field, channel := r.channel
             third := if r.state = .active then sl else 0 } }]
      else [] := by
  cases h : r.origin <;> simp only [Lease.moveReply, h] <;> rfl

/-! ### The outcomes of the operation (R41) -/

theorem runLeaseMove_badArg {s : State} (h : 127 < (s.arg 0).toNat ∨ 127 < (s.arg 1).toNat ∧ (s.arg 1).toNat ≠ 0xFF) :
    runLeaseMove s = s.completeBare .badArg := by
  unfold runLeaseMove
  obtain h | ⟨h, hpool⟩ := h
  · rw [below_none (n := 128) h]
  · rw [slotArg_none h hpool]
    cases below 128 (s.arg 0).toNat <;> rfl

theorem runLeaseMove_notLive {s : State} {l : LeaseNo} {a : SlotArg} (hl : (s.arg 0).toNat = l.val)
    (ha : slotArg (s.arg 1).toNat = some a) (hdead : s.lsv.leases[l].live = false) :
    runLeaseMove s = s.completeBare .notLive := by
  simp only [runLeaseMove, below_some l hl, ha, hdead, Bool.not_false, if_true]

theorem runLeaseMove_listen {s : State} {l : LeaseNo} {a : SlotArg} (hl : (s.arg 0).toNat = l.val)
    (ha : slotArg (s.arg 1).toNat = some a) (hlive : s.lsv.leases[l].live = true) (hk : s.lsv.leases[l].kind = .listen) :
    runLeaseMove s = s.completeBare .badArg := by
  simp only [runLeaseMove, below_some l hl, ha, hlive, Bool.not_true, Bool.false_eq_true, if_false, if_pos hk]

theorem runLeaseMove_refused {s : State} {l : LeaseNo} {a : SlotArg} {x : ResultCode} (hl : (s.arg 0).toNat = l.val)
    (ha : slotArg (s.arg 1).toNat = some a) (hlive : s.lsv.leases[l].live = true) (hk : s.lsv.leases[l].kind ≠ .listen)
    (hx : s.lsv.slotRefusal a = some x) : runLeaseMove s = s.completeBare x := by
  simp only [runLeaseMove, below_some l hl, ha, hlive, Bool.not_true, Bool.false_eq_true, if_false, if_neg hk, hx]

theorem runLeaseMove_ok {s : State} {l : LeaseNo} {a : SlotArg} {sl : SlotNo} (hl : (s.arg 0).toNat = l.val)
    (ha : slotArg (s.arg 1).toNat = some a) (hlive : s.lsv.leases[l].live = true) (hk : s.lsv.leases[l].kind ≠ .listen)
    (hx : s.lsv.slotRefusal a = none) (hsl : s.lsv.chosenSlot a = some sl) :
    runLeaseMove s =
      (s.afterTables none
        { lsv := s.lsv.moveLease l sl, out := s.lsv.leases[l].moveReply sl, tapEnded := false }).complete .ok
          (word sl.val) 0 0 0 := by
  simp only [runLeaseMove, below_some l hl, ha, hlive, Bool.not_true, Bool.false_eq_true, if_false, if_neg hk, hx, hsl]

/-! ### The command -/

theorem exec_leaseMove {ph : Phase} {s : State} (h : Ready .leaseMove ph s) :
    exec (.leaseMove ph) s = .next (runLeaseMove (atRun .leaseMove ph s)) :=
  congrArg Host.Outcome.next (hostCommand_ready runLeaseMove h)

/-- A slot that refuses the move of a live DUPLEX or TALK lease. -/
theorem exec_leaseMove_refused {ph : Phase} {s : State} (h : Ready .leaseMove ph s) {l : LeaseNo} {a : SlotArg}
    {x : ResultCode} (hl : arg ph s 0 = l.val) (ha : slotArg (arg ph s 1) = some a) (hlive : Live s.lsv.leases[l])
    (hk : s.lsv.leases[l].kind ≠ .listen) (hx : s.lsv.slotRefusal a = some x) :
    exec (.leaseMove ph) s = .next (done0 ph x s) := by
  rw [← toNat_atRun_arg .leaseMove] at hl ha
  rw [← live_iff] at hlive
  rw [← atRun_lsv .leaseMove ph s] at hlive hk hx
  rw [exec_leaseMove h, runLeaseMove_refused hl ha hlive hk hx, completeBare_atRun]

/-- The move of a live DUPLEX or TALK lease to a slot that does not refuse it. -/
theorem exec_leaseMove_ok {ph : Phase} {s : State} (h : Ready .leaseMove ph s) {l : LeaseNo} {a : SlotArg} {sl : SlotNo}
    (hl : arg ph s 0 = l.val) (ha : slotArg (arg ph s 1) = some a) (hlive : Live s.lsv.leases[l])
    (hk : s.lsv.leases[l].kind ≠ .listen) (hx : s.lsv.slotRefusal a = none) (hsl : s.lsv.chosenSlot a = some sl) :
    exec (.leaseMove ph) s =
      .next (done ph .ok (fields [(0, sl.val)]) 0 0 0
        (s.afterTables none
          { lsv := s.lsv.moveLease l sl, out := s.lsv.leases[l].moveReply sl, tapEnded := false })) := by
  rw [← toNat_atRun_arg .leaseMove] at hl ha
  rw [← live_iff] at hlive
  rw [← atRun_lsv .leaseMove ph s] at hlive hk hx hsl
  rw [exec_leaseMove h, runLeaseMove_ok hl ha hlive hk hx hsl, done_afterTables, atRun_lsv, fields_number]

/-- Settles O9: the checks in their order, and the move. -/
theorem leaseMoveChangesSlot : Obligations.LeaseMoveChangesSlot := by
  intro ph s h
  refine ⟨fun hout => ?badArg, fun l hl harg => ?_⟩
  case badArg =>
    rw [← toNat_atRun_arg .leaseMove, ← toNat_atRun_arg .leaseMove] at hout
    rw [exec_leaseMove h, runLeaseMove_badArg hout, completeBare_atRun]
  obtain ⟨a, ha⟩ := slotArg_isSome harg
  refine ⟨fun hdead => ?notLive, fun hlive hk => ?listen, fun hlive hk => ⟨fun hpool hfree => ?poolEmpty, fun sl hsl => ?named,
    fun o sl hslot hheld _ hto => ?moved⟩⟩
  case notLive =>
    rw [← toNat_atRun_arg .leaseMove] at hl ha
    rw [← live_eq_false_iff, ← atRun_lsv .leaseMove ph s] at hdead
    rw [exec_leaseMove h, runLeaseMove_notLive hl ha hdead, completeBare_atRun]
  case listen =>
    rw [← toNat_atRun_arg .leaseMove] at hl ha
    rw [← live_iff, ← atRun_lsv .leaseMove ph s] at hlive
    rw [← atRun_lsv .leaseMove ph s] at hk
    rw [exec_leaseMove h, runLeaseMove_listen hl ha hlive hk, completeBare_atRun]
  case poolEmpty => exact exec_leaseMove_refused h hl (slotArg_pool hpool) hlive hk (if_pos hfree)
  case named =>
    have hrefused {x : ResultCode} (hx : s.lsv.slotRefusal (.named sl) = some x) :=
      exec_leaseMove_refused h hl (slotArg_named sl hsl) hlive hk hx
    refine ⟨fun ht => hrefused ?_, fun ht hst => hrefused ?_, fun ht hst => hrefused ?_⟩
    · exact (slotRefusal_named ..).trans (if_pos ht)
    · exact (slotRefusal_named ..).trans ((if_neg ht).trans (if_pos hst))
    · exact (slotRefusal_named ..).trans
        ((if_neg ht).trans ((if_neg (by rw [hst]; exact nofun)).trans (if_pos hst)))
  case moved =>
    have hfree : s.lsv.slots[sl].state = .free ∨ s.lsv.slots[sl].state = .reserved :=
      hto.elim (fun hx => .inl hx.2.2) (fun hx => hx.2.2)
    refine ⟨_, moveLease_moved hslot hheld hfree, ?_⟩
    rw [← moveReply_eq]
    obtain ⟨hpool, hhead, -⟩ | ⟨hsl, ht, -⟩ := hto
    · exact exec_leaseMove_ok h hl (slotArg_pool hpool) hlive hk
        (if_neg fun hempty => by rw [hempty] at hhead; cases hhead) hhead
    · refine exec_leaseMove_ok h hl (slotArg_named sl hsl) hlive hk ?_ rfl
      have hguard : s.lsv.slots[sl].state ≠ .quarantine := by
        obtain hst | hst := hfree <;> rw [hst] <;> exact nofun
      have hheld : s.lsv.slots[sl].state ≠ .held := by
        obtain hst | hst := hfree <;> rw [hst] <;> exact nofun
      exact (slotRefusal_named ..).trans ((if_neg ht).trans ((if_neg hguard).trans (if_neg hheld)))

end Sys2Proof.Spec
end

section
/-! PROOF. LEASE_CREATE (R24, R25) and O10. -/

namespace Sys2Proof.Spec

open Sys2Proof.Machine

/-! ### The arguments (R24 row 3) -/

theorem kindOf_toCode (k : LeaseKind) : kindOf k.toCode = some k := by cases k <;> rfl

theorem kindOf_eq_some {x : Nat} {k : LeaseKind} (h : kindOf x = some k) : x = k.toCode := by
  unfold kindOf at h
  split at h
  · cases h; rfl
  · cases h; rfl
  · cases h; rfl
  · cases h

/-- Arguments in range read as the values that the statements give. -/
theorem Asks.createArgs_eq {ph : Phase} {s : State} {a : CreateArgs} (h : Asks ph s a) :
    createArgs ((atRun .leaseCreate ph s).arg 0) ((atRun .leaseCreate ph s).arg 1) ((atRun .leaseCreate ph s).arg 2)
      ((atRun .leaseCreate ph s).arg 3) a.port s.ports[a.port].lpi.format = some a := by
  have hkind : kindOf (argHigh ph s 1) = some a.kind := by rw [h.kind, code_leaseKind, kindOf_toCode]
  obtain ⟨kind, port, channel, group, cls, slot, pinned, x⟩ := a
  simp only [createArgs, hi_atRun_arg, lo_atRun_arg, bit_atRun_arg, below_some _ h.channel, hkind, below_some _ h.group,
    below_some _ h.cls, h.bearer, if_true]
  have hpinned : pinned = argBit ph s 3 15 := h.pinned
  have hcode : x = if argBit ph s 3 8 then some (byteOf (argLow ph s 3)) else none := h.code
  by_cases hk : kind = .listen
  · have hslot : slot = none := h.listener hk
    rw [if_pos hk, hpinned, hcode, hslot]
  · have hslot : (slotArg (argLow ph s 2)).map some = some slot := by
      obtain ⟨hx, hslot⟩ | ⟨sl, hx, hslot⟩ := h.slot hk
      · rw [slotArg_pool hx]
        exact congrArg some hslot.symm
      · rw [slotArg_named sl hx]
        exact congrArg some hslot.symm
    obtain ⟨y, hy, rfl⟩ := Option.map_eq_some_iff.mp hslot
    rw [if_neg hk, hy, hpinned, hcode]
    rfl

/-- Arguments that read as values are in range. -/
theorem createArgs_ranges {a0 a1 a2 a3 : Word} {p : PortNo} {f : Format} {a : CreateArgs}
    (h : createArgs a0 a1 a2 a3 p f = some a) :
    lo a0 = a.channel.val ∧ f.bearer a.channel = true ∧ hi a1 = a.kind.toCode ∧ lo a1 = a.group.val ∧ hi a2 = a.cls.val ∧
      (a.kind ≠ .listen → lo a2 ≤ 127 ∨ lo a2 = 0xFF) := by
  unfold createArgs at h
  split at h
  case h_2 => cases h
  case h_1 c k g q hc hk hg hq =>
    rw [below_eq_some] at hc hg hq
    split at h
    case isFalse => cases h
    case isTrue hb =>
      dsimp only at h
      split at h
      case isTrue hl =>
        obtain rfl := Option.some.inj h
        exact ⟨hc, hb, kindOf_eq_some hk, hg, hq, fun hn => absurd hl hn⟩
      case isFalse =>
        obtain ⟨x, hx, rfl⟩ := Option.map_eq_some_iff.mp h
        refine ⟨hc, hb, kindOf_eq_some hk, hg, hq, fun _ => ?_⟩
        by_contra hout
        rw [slotArg_none (by omega) (by omega)] at hx
        cases hx

/-! ### The refusals (R24 rows 4 to 11) -/

/-- The lowest FREE record of the statements is the model's (R15). -/
theorem LowestFree.lowestFree_eq {v : Lsv} {n : LeaseNo} (h : LowestFree v n) : v.lowestFree = some n := by
  obtain ⟨hfree, hlowest⟩ := h
  refine List.find?_eq_some_iff_getElem.mpr ⟨beq_iff_eq.mpr hfree, n.val, by simp, by simp, fun j hj => ?_⟩
  have hne := hlowest ⟨j, by omega⟩ hj
  simpa using hne

theorem lowestFree_eq_none_iff (v : Lsv) : v.lowestFree = none ↔ ∀ l : LeaseNo, v.leases[l].state ≠ .free := by
  unfold Lsv.lowestFree
  rw [List.find?_eq_none]
  exact ⟨fun h l hl => h l (List.mem_finRange l) (beq_iff_eq.mpr hl), fun h l _ hl => h l (beq_iff_eq.mp hl)⟩

theorem groupRefusal_eq (v : Lsv) (a : CreateArgs) :
    v.groupRefusal a =
      if a.kind = .talk ∧ v.groups[a.group].talker ≠ none then some .talkBusy
      else if a.kind = .listen ∧ v.groups[a.group].listenerCap ≤ v.groups[a.group].listeners.length then some .groupFull
      else none := by
  cases hk : a.kind with
  | duplex => simp only [Lsv.groupRefusal, hk]; rfl
  | talk =>
    by_cases ht : v.groups[a.group].talker = none
    · rw [if_neg fun hx => hx.2 ht, if_neg fun hx => nomatch hx.1]
      simp only [Lsv.groupRefusal, hk, ht]
      rfl
    · rw [if_pos ⟨rfl, ht⟩]
      simp only [Lsv.groupRefusal, hk, Option.isSome_iff_ne_none.mpr ht, if_true]
  | listen =>
    rw [if_neg fun hx => nomatch hx.1]
    simp only [Lsv.groupRefusal, hk, true_and]

/-- The refusals of the statements are the model's, in the same order. -/
theorem createRefusal_eq (v : Lsv) (a : CreateArgs) : v.createRefusal a = createFails v a := by
  unfold Lsv.createRefusal createFails
  rw [groupRefusal_eq]
  by_cases he : v.chanMap[a.port][a.channel] = none
  case neg => exact (if_pos (Option.isSome_iff_ne_none.mpr he)).trans (if_pos he).symm
  rw [if_neg (show ¬ (v.entry a.port a.channel).isSome = true by rw [Lsv.entry, he]; exact nofun),
    if_neg (not_not.mpr he)]
  by_cases hfull : v.lowestFree = none
  · rw [if_pos hfull, if_pos ((lowestFree_eq_none_iff v).mp hfull)]
  rw [if_neg hfull, if_neg (mt (lowestFree_eq_none_iff v).mpr hfull)]
  split
  · rfl
  split
  · rfl
  rw [Option.none_or]
  cases a.slot with
  | none => rfl
  | some x =>
    cases x with
    | pool => rfl
    | named sl => exact slotRefusal_named v sl

/-! ### The outcomes of the operation -/

theorem runLeaseCreate_port {s : State} (h : 3 < hi (s.arg 0)) : runLeaseCreate s = s.completeBare .badArg := by
  simp only [runLeaseCreate, below_none (n := 4) h]

theorem runLeaseCreate_closed {s : State} {p : PortNo} (hp : hi (s.arg 0) = p.val) (hc : s.ports[p].lpi.admin = .closed) :
    runLeaseCreate s = s.completeBare .portClosed := by
  simp only [runLeaseCreate, below_some p hp, if_pos hc]

theorem runLeaseCreate_badArg {s : State} {p : PortNo} (hp : hi (s.arg 0) = p.val) (hc : s.ports[p].lpi.admin ≠ .closed)
    (ha : createArgs (s.arg 0) (s.arg 1) (s.arg 2) (s.arg 3) p s.ports[p].lpi.format = none) :
    runLeaseCreate s = s.completeBare .badArg := by
  simp only [runLeaseCreate, below_some p hp, if_neg hc, ha]

theorem runLeaseCreate_refused {s : State} {p : PortNo} {a : CreateArgs} {x : ResultCode} (hp : hi (s.arg 0) = p.val)
    (hc : s.ports[p].lpi.admin ≠ .closed)
    (ha : createArgs (s.arg 0) (s.arg 1) (s.arg 2) (s.arg 3) p s.ports[p].lpi.format = some a)
    (hx : s.lsv.createRefusal a = some x) : runLeaseCreate s = s.completeBare x := by
  simp only [runLeaseCreate, below_some p hp, if_neg hc, ha, hx]

theorem runLeaseCreate_ok {s : State} {p : PortNo} {a : CreateArgs} {n : LeaseNo} (hp : hi (s.arg 0) = p.val)
    (hc : s.ports[p].lpi.admin ≠ .closed)
    (ha : createArgs (s.arg 0) (s.arg 1) (s.arg 2) (s.arg 3) p s.ports[p].lpi.format = some a)
    (hx : s.lsv.createRefusal a = none) (hn : s.lsv.lowestFree = some n) : runLeaseCreate s = s.createHostLease a n := by
  simp only [runLeaseCreate, below_some p hp, if_neg hc, ha, hx, hn]

/-! ### The command -/

theorem exec_leaseCreate {ph : Phase} {s : State} (h : Ready .leaseCreate ph s) :
    exec (.leaseCreate ph) s = .next (runLeaseCreate (atRun .leaseCreate ph s)) :=
  congrArg Host.Outcome.next (hostCommand_ready runLeaseCreate h)

/-- The slot that a HOST lease takes is that of the statements (R25). -/
theorem createSlot_eq (v : Lsv) (a : CreateArgs) : v.createSlot a = slotTaken v a := by
  unfold Lsv.createSlot slotTaken
  cases a.slot with
  | none => rfl
  | some x =>
    cases x with
    | named sl => rfl
    | pool =>
      cases hf : v.freeList with
      | nil => simp only [Option.bind_some, Lsv.chosenSlot, hf, List.head?_nil]
      | cons sl rest => simp only [Option.bind_some, Lsv.chosenSlot, hf, List.head?_cons]

theorem createHostLease_atRun (ph : Phase) (s : State) (a : CreateArgs) (n : LeaseNo) (made : Lsv × List Unsolicited)
    (hmade : made = s.lsv.create s.cpt.walker.scope s.ports[a.port].lpi.faulty (slotTaken s.lsv a) a.record n) :
    (atRun .leaseCreate ph s).createHostLease a n =
      done ph .ok (fields [(0, n.val)]) (fields [(0, stateCode made.1.leases[n].state)])
        (fields [(0, numberOr made.1.leases[n].slot 0xFFFF)]) 0
        (s.afterTables none { lsv := made.1, out := made.2, tapEnded := false }) := by
  subst hmade
  simp only [State.createHostLease, atRun_lsv, atRun_scope, atRun_ports, createSlot_eq, done_afterTables, fields_number,
    stateCode_eq_toCode, numberOr_eq_orNone]

/-- LEASE_CREATE refused, row by row (R24). -/
theorem leaseCreateRefused : LeaseCreateRefused := by
  intro ph s h
  rw [exec_leaseCreate h]
  refine ⟨fun hp => congrArg _ ?_, fun p hp hc => congrArg _ ?_, fun p hp hc hout => congrArg _ ?_,
    fun a x hasks hx => congrArg _ ?_⟩
  · rw [← hi_atRun_arg .leaseCreate] at hp
    rw [runLeaseCreate_port hp, completeBare_atRun]
  · rw [← hi_atRun_arg .leaseCreate] at hp
    rw [← atRun_ports .leaseCreate ph s] at hc
    rw [runLeaseCreate_closed hp hc, completeBare_atRun]
  · rw [← hi_atRun_arg .leaseCreate] at hp
    rw [← atRun_ports .leaseCreate ph s] at hc
    refine (runLeaseCreate_badArg hp hc (Option.eq_none_iff_forall_ne_some.mpr fun a ha => ?_)).trans (completeBare_atRun ..)
    obtain ⟨hchannel, hbearer, hkind, hgroup, hcls, hslot⟩ := createArgs_ranges ha
    rw [lo_atRun_arg] at hchannel hgroup hslot
    rw [hi_atRun_arg] at hkind hcls
    have hcode : a.kind.toCode ≤ 2 := by cases a.kind <;> decide
    obtain hx | ⟨c, hx, hnot⟩ | hx | hx | hx | ⟨hnot, hx, hpool⟩ := hout
    · omega
    · rw [Fin.ext (hchannel.symm.trans hx), atRun_ports, hnot] at hbearer
      cases hbearer
    · omega
    · omega
    · omega
    · have hk : a.kind ≠ .listen := fun hk => hnot (by rw [hkind, hk]; rfl)
      have hin := hslot hk
      omega
  · have hp := hasks.port
    have hc := hasks.opened
    rw [← hi_atRun_arg .leaseCreate] at hp
    rw [← createRefusal_eq, ← atRun_lsv .leaseCreate ph s] at hx
    rw [← atRun_ports .leaseCreate ph s] at hc
    have ha := hasks.createArgs_eq
    rw [← atRun_ports .leaseCreate ph s] at ha
    rw [runLeaseCreate_refused hp hc ha hx, completeBare_atRun]

/-- LEASE_CREATE carried out (R25). -/
theorem leaseCreateMakesHostLease : LeaseCreateMakesHostLease := by
  intro ph s a n h hasks hx hn made hmade
  have hp := hasks.port
  have hc := hasks.opened
  have ha := hasks.createArgs_eq
  have hfree := hn.lowestFree_eq
  rw [← hi_atRun_arg .leaseCreate] at hp
  rw [← createRefusal_eq, ← atRun_lsv .leaseCreate ph s] at hx
  rw [← atRun_lsv .leaseCreate ph s] at hfree
  rw [← atRun_ports .leaseCreate ph s] at hc ha
  rw [exec_leaseCreate h, runLeaseCreate_ok hp hc ha hx hfree, createHostLease_atRun ph s a n made hmade]

/-- Settles O10: the refusals and the creation. -/
theorem leaseCreateCheckedAndCarriedOut : Obligations.LeaseCreateCheckedAndCarriedOut :=
  ⟨leaseCreateRefused, leaseCreateMakesHostLease⟩

end Sys2Proof.Spec
end

section
/-! PROOF. SLOT_READ and SLOT_RESERVE (R37, R38) and O15; MONITOR_SET and MONITOR_CLEAR (R48, R49) and O18. -/

namespace Sys2Proof.Spec

open Sys2Proof.Machine

/-! ### SLOT_READ -/

theorem exec_slotRead {ph : Phase} {s : State} (h : Ready .slotRead ph s) :
    exec (.slotRead ph) s = .next (runSlotRead (atRun .slotRead ph s)) :=
  congrArg Host.Outcome.next (hostCommand_ready runSlotRead h)

theorem code_home (h : Home) : code [Home.pool, .reserved] h = h.toCode := by cases h <;> rfl

/-- RES0 of SLOT_READ by its fields. -/
theorem slotRecordWord_eq (v : Lsv) (sl : SlotNo) {target : Bool} (ht : target = true ↔ TapTarget v sl) :
    fields [(14, slotCode v.slots[sl].state), (13, bit target),
        (8, match v.slots[sl].home with | none => 3 | some h => code [Home.pool, .reserved] h),
        (0, v.slots[sl].guard.getD 0xFF)] = v.slotWord sl := by
  have htarget : target = v.tapTarget sl := Bool.eq_iff_iff.mpr (ht.trans (tapTarget_iff v sl).symm)
  rw [Lsv.slotWord, slotCode_eq_toCode, htarget, bit_eq_flag]
  cases v.slots[sl].home with
  | none => exact fields_eq_word (by simp only [List.foldr, Option.map_none, Option.getD_none]; omega)
  | some x => exact fields_eq_word (by simp only [List.foldr, Option.map_some, Option.getD_some, code_home]; omega)

/-- The position of a slot in its list, or the value for none. -/
theorem position_eq (v : Lsv) (sl : SlotNo) :
    (v.position sl).getD 0xFFFF =
      (match v.slots[sl].state with
        | .free => v.freeList.idxOf sl
        | .quarantine => v.quarantine.idxOf sl
        | .reserved | .held => 0xFFFF) := by
  cases hst : v.slots[sl].state <;> simp only [Lsv.position, hst] <;> rfl

/-- SLOT_READ (R37). -/
theorem slotReadReportsSlot : SlotReadReportsSlot := by
  intro ph s h
  rw [exec_slotRead h]
  refine ⟨fun sl hsl target place ht hplace => congrArg _ ?_, fun hout => congrArg _ ?_⟩
  · simp only [runSlotRead, toNat_atRun_arg, below_some sl hsl, atRun_lsv, complete_atRun]
    rw [fields_number, fields_number, numberOr_eq_orNone]
    have hposition : place = (s.lsv.position sl).getD 0xFFFF := hplace.trans (position_eq s.lsv sl).symm
    rw [hposition]
    exact congrArg (done ph .ok · _ _ 0 s) (slotRecordWord_eq s.lsv sl ht).symm
  · simp only [runSlotRead, toNat_atRun_arg, below_none (n := 128) hout, completeBare_atRun]

/-! ### SLOT_RESERVE -/

theorem exec_slotReserve {ph : Phase} {s : State} (h : Ready .slotReserve ph s) :
    exec (.slotReserve ph) s = .next (runSlotReserve (atRun .slotReserve ph s)) :=
  congrArg Host.Outcome.next (hostCommand_ready runSlotReserve h)

/-- A slot in state `st`: OK with the state before, and the tables with the slot set aside. -/
theorem exec_slotReserve_ok {ph : Phase} {s : State} (h : Ready .slotReserve ph s) {sl : SlotNo}
    (ha : arg ph s 0 = sl.val) {st : SlotState} (hst : s.lsv.slots[sl].state = st) :
    exec (.slotReserve ph) s =
      .next (done ph .ok (fields [(14, slotCode st)]) 0 0 0 (withTables s (s.lsv.reserveSlot sl))) := by
  rw [exec_slotReserve h]
  simp only [runSlotReserve, toNat_atRun_arg, below_some sl ha, complete_atRun_withTables, atRun_lsv,
    slotStateWord_eq_fields hst]

/-- SLOT_RESERVE (R38). -/
theorem slotReserveSetsAside : SlotReserveSetsAside := by
  intro ph s h
  refine ⟨fun hout => ?_, fun sl ha => ⟨fun hst => ?_, fun hst => ?_, fun hst => ?_, fun hst => ?_⟩⟩
  · rw [exec_slotReserve h]
    simp only [runSlotReserve, toNat_atRun_arg, below_none (n := 128) hout, completeBare_atRun]
  all_goals
    rw [exec_slotReserve_ok h ha hst]
    simp only [Lsv.reserveSlot, hst]
    rfl

/-- Settles O15. -/
theorem slotReadAndReserve : Obligations.SlotReadAndReserve := ⟨slotReadReportsSlot, slotReserveSetsAside⟩

/-! ### The monitor tap -/

theorem exec_monitorSet {ph : Phase} {s : State} (h : Ready .monitorSet ph s) :
    exec (.monitorSet ph) s = .next (runMonitorSet (atRun .monitorSet ph s)) :=
  congrArg Host.Outcome.next (hostCommand_ready runMonitorSet h)

theorem exec_monitorClear {ph : Phase} {s : State} (h : Ready .monitorClear ph s) :
    exec (.monitorClear ph) s = .next (runMonitorClear (atRun .monitorClear ph s)) :=
  congrArg Host.Outcome.next (hostCommand_ready runMonitorClear h)

theorem runMonitorSet_badArg {s : State} (h : 127 < (s.arg 0).toNat ∨ 127 < (s.arg 1).toNat) :
    runMonitorSet s = s.completeBare .badArg := by
  unfold runMonitorSet
  obtain h | h := h
  · rw [below_none (n := 128) h]
  · rw [below_none (n := 128) h]
    cases below 128 (s.arg 0).toNat <;> rfl

/-- MONITOR_SET with its arguments in range: the checks in their order, and the tap (R48). -/
theorem exec_monitorSet_inRange {ph : Phase} {s : State} (h : Ready .monitorSet ph s) {l : LeaseNo} {sl : SlotNo}
    (hl : arg ph s 0 = l.val) (hsl : arg ph s 1 = sl.val) :
    exec (.monitorSet ph) s =
      .next (if s.lsv.tap.state = .on then done0 ph .tapBusy s
        else if (!s.lsv.leases[l].live) = true then done0 ph .notLive s
        else if s.lsv.slots[sl].state ≠ .reserved then done0 ph .badArg s
        else done0 ph .ok (withTables s { s.lsv with
          tap := { state := .on, source := some l, target := some sl, endReason := none } })) := by
  rw [exec_monitorSet h]
  simp only [runMonitorSet, toNat_atRun_arg, below_some l hl, below_some sl hsl, atRun_lsv, State.completeBare,
    complete_atRun_withTables, complete_atRun, done0]

/-- Settles O18. -/
theorem monitorCommandsSetTap : Obligations.MonitorCommandsSetTap := by
  refine ⟨fun ph s h => ⟨fun hout => ?_, fun l sl hl hsl => ?_⟩, fun ph s h => ?clear⟩
  · rw [← toNat_atRun_arg .monitorSet, ← toNat_atRun_arg .monitorSet] at hout
    rw [exec_monitorSet h, runMonitorSet_badArg hout, completeBare_atRun]
  · rw [exec_monitorSet_inRange h hl hsl]
    have hlive (hl' : Live s.lsv.leases[l]) : ¬ (!s.lsv.leases[l].live) = true := by
      rw [(live_iff _).mpr hl']
      exact nofun
    refine ⟨fun hon => ?_, fun hoff hdead => ?_, fun hoff hl' hst => ?_, fun hoff hl' hst => ?_⟩
    · rw [if_pos hon]
    · rw [if_neg hoff, if_pos (by rw [(live_eq_false_iff _).mpr hdead]; rfl)]
    · rw [if_neg hoff, if_neg (hlive hl'), if_pos hst]
    · rw [if_neg hoff, if_neg (hlive hl'), if_neg (not_not.mpr hst)]
  case clear =>
    rw [exec_monitorClear h, runMonitorClear, State.completeBare, complete_atRun_withTables, atRun_lsv, done0]

end Sys2Proof.Spec
end

section
/-! PROOF. GROUP_READ, GROUP_WRITE and LISTENER_READ (R66, R67, R69): O19 and O20. -/

namespace Sys2Proof.Spec

open Sys2Proof.Machine

/-- The live leases of the statements are the model's. -/
theorem liveLeases_eq (v : Lsv) (t : Lease → Bool) : liveLeases v t = v.liveWhere t := by
  unfold liveLeases Lsv.liveWhere
  refine List.filter_congr fun l _ => congrArg (· && t v.leases[l]) ?_
  cases hst : v.leases[l].state <;> simp only [Lease.live, hst] <;> rfl

/-! ### GROUP_READ -/

theorem exec_groupRead {ph : Phase} {s : State} (h : Ready .groupRead ph s) :
    exec (.groupRead ph) s = .next (runGroupRead (atRun .groupRead ph s)) :=
  congrArg Host.Outcome.next (hostCommand_ready runGroupRead h)

/-- The listeners counted: the ACTIVE ones with a talker, the WAITING ones without. -/
theorem listenerCount_eq (v : Lsv) (g : GroupNo) {shown : LeaseState}
    (h : shown = (match v.groups[g].talker with | none => .waiting | some _ => .active)) :
    v.listenerCount g = (v.groups[g].listeners.filter fun l => v.leases[l].state == shown).length := by
  subst h
  cases ht : v.groups[g].talker <;> simp only [Lsv.listenerCount, Lsv.listenersIn, ht] <;> rfl

theorem talkerSlot_eq (v : Lsv) (g : GroupNo) :
    v.talkerSlot g = (match v.groups[g].talker with | none => none | some t => v.leases[t].slot) := by
  cases ht : v.groups[g].talker <;> simp only [Lsv.talkerSlot, ht] <;> rfl

/-- RES1 of GROUP_READ by its fields. -/
theorem groupConfigurationWord_eq (r : Group) :
    fields [(11, r.listeners.length), (6, r.listenerCap), (2, r.members.toNat), (1, bit r.admitNonMember),
        (0, bit r.enabled)] =
      word (r.listeners.length * 2048 + r.listenerCap * 64 + r.members.toNat * 4 + flag r.admitNonMember * 2 +
        flag r.enabled) := by
  rw [bit_eq_flag, bit_eq_flag]
  exact fields_eq_word (by simp only [List.foldr]; omega)

/-- GROUP_READ (R66). -/
theorem groupReadReportsGroup : GroupReadReportsGroup := by
  intro ph s h
  rw [exec_groupRead h]
  refine ⟨fun hout => congrArg _ ?_, fun g r hg hr talkerSlot shown htalker hshown => congrArg _ ?_⟩
  · simp only [runGroupRead, toNat_atRun_arg, below_none (n := 32) hout, completeBare_atRun]
  · subst hr
    have hslot : talkerSlot = s.lsv.talkerSlot g := htalker.trans (talkerSlot_eq s.lsv g).symm
    simp only [runGroupRead, toNat_atRun_arg, below_some g hg, atRun_lsv, complete_atRun, hslot, liveLeases_eq,
      groupConfigurationWord_eq, fields_bytes, numberOr_eq_orNone, listenerCount_eq s.lsv g hshown]
    rfl

/-! ### GROUP_WRITE -/

theorem exec_groupWrite {ph : Phase} {s : State} (h : Ready .groupWrite ph s) :
    exec (.groupWrite ph) s = .next (runGroupWrite (atRun .groupWrite ph s)) :=
  congrArg Host.Outcome.next (hostCommand_ready runGroupWrite h)

theorem runGroupWrite_badArg {s : State} (h : 31 < hi (s.arg 0) ∨ 16 < hi (s.arg 1) ∨ 127 < lo (s.arg 1)) :
    runGroupWrite s = s.completeBare .badArg := by
  unfold runGroupWrite
  obtain h | h := h
  · rw [below_none (n := 32) h]
  · cases below 32 (hi (s.arg 0)) with
    | none => rfl
    | some g => exact if_pos h

/-- The members field of GROUP_WRITE: bits 11..8 of its argument. -/
theorem members_eq (c : HostCmd) (ph : Phase) (s : State) (i : Fin 4) :
    ((atRun c ph s).arg i).extractLsb' 8 4 = BitVec.ofNat 4 (arg ph s i / 256) := by
  rw [atRun_arg, arg]
  refine BitVec.eq_of_toNat_eq ?_
  rw [BitVec.extractLsb'_toNat, BitVec.toNat_ofNat, Nat.shiftRight_eq_div_pow]

/-- GROUP_WRITE with its arguments in range: GROUP_BUSY, or the six fields (R67). -/
theorem exec_groupWrite_inRange {ph : Phase} {s : State} (h : Ready .groupWrite ph s) {g : GroupNo}
    (hg : argHigh ph s 0 = g.val) (hcap : argHigh ph s 1 ≤ 16) (hmask : argLow ph s 1 ≤ 127) :
    exec (.groupWrite ph) s =
      .next (if argBit ph s 2 0 = false ∧ s.lsv.liveInGroup g ≠ [] then done0 ph .groupBusy s
        else done0 ph .ok (withTables s { s.lsv with
          groups := upd s.lsv.groups g { s.lsv.groups[g] with
            enabled := argBit ph s 2 0, admitNonMember := argBit ph s 2 1
            members := BitVec.ofNat 4 (arg ph s 2 / 256)
            expiryLimit := argLow ph s 0, listenerCap := argHigh ph s 1, mask := BitVec.ofNat 7 (argLow ph s 1) } })) := by
  have hin : ¬ (16 < argHigh ph s 1 ∨ 127 < argLow ph s 1) := by omega
  rw [exec_groupWrite h]
  simp only [runGroupWrite, hi_atRun_arg, lo_atRun_arg, bit_atRun_arg, below_some g hg, if_neg hin, atRun_lsv,
    completeBare_atRun, members_eq]
  refine congrArg _ (ite_congr rfl (fun _ => rfl) fun _ => ?_)
  rw [State.completeBare, complete_atRun_withTables]
  rfl

/-- No live lease is of the group. -/
theorem liveInGroup_eq_nil_iff (v : Lsv) (g : GroupNo) :
    v.liveInGroup g = [] ↔ ∀ l : LeaseNo, Live v.leases[l] → v.leases[l].group ≠ g := by
  rw [List.eq_nil_iff_forall_not_mem]
  refine forall_congr' fun l => ?_
  rw [Lsv.liveInGroup, Lsv.mem_liveWhere, live_iff, beq_iff_eq, not_and]

/-- GROUP_WRITE (R67). -/
theorem groupWriteReplacesConfiguration : GroupWriteReplacesConfiguration := by
  intro ph s h
  refine ⟨fun hout => ?_, fun g hg hcap hmask => ?_⟩
  · rw [← hi_atRun_arg .groupWrite, ← hi_atRun_arg .groupWrite, ← lo_atRun_arg .groupWrite] at hout
    rw [exec_groupWrite h, runGroupWrite_badArg hout, completeBare_atRun]
  · rw [exec_groupWrite_inRange h hg hcap hmask]
    refine ⟨fun hdisable hlive => ?_, fun hok => ?_⟩
    · obtain ⟨l, hl, hgroup⟩ := hlive
      rw [if_pos ⟨hdisable, fun hnil => (liveInGroup_eq_nil_iff _ _).mp hnil l hl hgroup⟩]
    · rw [if_neg]
      rintro ⟨hdisable, hlive⟩
      obtain henable | hnone := hok
      · rw [hdisable] at henable
        cases henable
      · exact hlive ((liveInGroup_eq_nil_iff _ _).mpr hnone)

/-- Settles O19. -/
theorem groupCommandsReadAndWrite : Obligations.GroupCommandsReadAndWrite :=
  ⟨groupReadReportsGroup, groupWriteReplacesConfiguration⟩

/-! ### LISTENER_READ -/

theorem exec_listenerRead {ph : Phase} {s : State} (h : Ready .listenerRead ph s) :
    exec (.listenerRead ph) s = .next (runListenerRead (atRun .listenerRead ph s)) :=
  congrArg Host.Outcome.next (hostCommand_ready runListenerRead h)

theorem runListenerRead_badArg {s : State} (h : 31 < (s.arg 0).toNat ∨ 15 < (s.arg 1).toNat) :
    runListenerRead s = s.completeBare .badArg := by
  unfold runListenerRead
  obtain h | h := h
  · rw [below_none (n := 32) h]
  · rw [below_none (n := 16) h]
    cases below 32 (s.arg 0).toNat <;> rfl

/-- Settles O20. -/
theorem listenerReadReportsPosition : Obligations.ListenerReadReportsPosition := by
  intro ph s h
  rw [exec_listenerRead h]
  refine ⟨fun hout => congrArg _ ?_, fun g hg hi => ?_⟩
  · rw [← toNat_atRun_arg .listenerRead, ← toNat_atRun_arg .listenerRead] at hout
    rw [runListenerRead_badArg hout, completeBare_atRun]
  have hindex : below 16 (arg ph s 1) = some ⟨arg ph s 1, by omega⟩ := below_some _ rfl
  refine ⟨fun l hl => congrArg _ ?_, fun hlen => congrArg _ ?_⟩
  · simp only [runListenerRead, toNat_atRun_arg, below_some g hg, hindex, atRun_lsv, hl, complete_atRun, fields_number,
      leaseWord_eq]
  · simp only [runListenerRead, toNat_atRun_arg, below_some g hg, hindex, atRun_lsv, List.getElem?_eq_none hlen,
      completeBare_atRun]

end Sys2Proof.Spec
end

section
/-! PROOF. PORT_READ and PORT_SET (R127, R126, R112): O21. -/

namespace Sys2Proof.Spec

open Sys2Proof.Machine

/-! ### PORT_READ -/

theorem exec_portRead {ph : Phase} {s : State} (h : Ready .portRead ph s) :
    exec (.portRead ph) s = .next (runPortRead (atRun .portRead ph s)) :=
  congrArg Host.Outcome.next (hostCommand_ready runPortRead h)

theorem code_admin (a : Admin) : code [Admin.closed, .drain, .opened] a = a.toCode := by cases a <;> rfl

theorem code_format (f : Format) : code [Format.f32, .f24] f = f.toCode := by cases f <;> rfl

theorem code_condition (c : Condition) : code [Condition.normal, .pending, .faulted, .recovering] c = c.toCode := by
  cases c <;> rfl

/-- RES0 of PORT_READ by its fields. -/
theorem portWord_eq (x : Lpi) :
    fields [(8, x.countdown), (6, code [Admin.closed, .drain, .opened] x.admin), (5, code [Format.f32, .f24] x.format),
        (3, code [Condition.normal, .pending, .faulted, .recovering] x.condition), (2, bit x.lost), (1, bit x.faultIn)] =
      word (x.countdown * 256 + x.admin.toCode * 64 + x.format.toCode * 32 + x.condition.toCode * 8 + flag x.lost * 4 +
        flag x.faultIn * 2) := by
  rw [code_admin, code_format, code_condition, bit_eq_flag, bit_eq_flag]
  exact fields_eq_word (by simp only [List.foldr]; omega)

/-- Two fields, the upper from bit 11. -/
theorem fields_eleven (a b : Nat) : fields [(11, a), (0, b)] = word (a * 2048 + b) :=
  fields_eq_word (by simp only [List.foldr]; omega)

/-- The frames that PORT_READ reports, by the port's condition. -/
theorem framesRemaining_eq (x : Lpi) :
    x.framesRemaining =
      (match x.condition with
        | .pending => x.holdTimer.getD 0x7FF
        | .recovering => x.recoveryTimer.getD 0x7FF
        | .normal | .faulted => 0x7FF) := by
  cases hc : x.condition <;> simp only [Lpi.framesRemaining, hc]

/-- PORT_READ (R127). -/
theorem portReadReportsPort : PortReadReportsPort := by
  intro ph s h
  rw [exec_portRead h]
  refine ⟨fun hout => congrArg _ ?_, fun p x frames hp hx hframes => congrArg _ ?_⟩
  · simp only [runPortRead, toNat_atRun_arg, below_none (n := 4) hout, completeBare_atRun]
  · have hremaining : frames = x.framesRemaining := hframes.trans (framesRemaining_eq x).symm
    simp only [runPortRead, toNat_atRun_arg, below_some p hp, atRun_ports, atRun_lsv, complete_atRun, ← hx, hremaining,
      portWord_eq, fields_bytes, fields_eleven, liveLeases_eq]
    rfl

/-! ### PORT_SET -/

theorem exec_portSet {ph : Phase} {s : State} (h : Ready .portSet ph s) :
    exec (.portSet ph) s = .next (runPortSet (atRun .portSet ph s)) :=
  congrArg Host.Outcome.next (hostCommand_ready runPortSet h)

theorem adminOf_toCode (a : Admin) : adminOf a.toCode = some a := by cases a <;> rfl

theorem formatOf_toCode (f : Format) : formatOf f.toCode = some f := by cases f <;> rfl

theorem adminOf_out {x : Nat} (h : 2 < x) : adminOf x = none := by
  unfold adminOf
  split
  case h_4 => rfl
  all_goals omega

theorem formatOf_out {x : Nat} (h : 1 < x) : formatOf x = none := by
  unfold formatOf
  split
  case h_3 => rfl
  all_goals omega

/-- Arguments out of range (R126 row 1). -/
theorem portArgs_none {a0 a1 a2 a3 : Word} (h : 2 < lo a0 ∨ 1 < hi a1 ∨ hi a2 = 0) : portArgs a0 a1 a2 a3 = none := by
  unfold portArgs
  obtain h | h | h := h
  · rw [adminOf_out h]
  · rw [formatOf_out h]
    cases adminOf (lo a0) <;> rfl
  · cases adminOf (lo a0) with
    | none => rfl
    | some ad =>
      cases formatOf (hi a1) with
      | none => rfl
      | some f => exact if_pos h

theorem runPortSet_badArg {s : State}
    (h : 3 < hi (s.arg 0) ∨ 2 < lo (s.arg 0) ∨ 1 < hi (s.arg 1) ∨ hi (s.arg 2) = 0) :
    runPortSet s = s.completeBare .badArg := by
  unfold runPortSet
  obtain h | h := h
  · rw [below_none (n := 4) h]
  · rw [portArgs_none h]
    cases below 4 (hi (s.arg 0)) <;> rfl

/-- The configuration that an accepted PORT_SET leaves is that of the statements, on a CLOSED port with condition NORMAL. -/
theorem configured_eq {x : Port} (c : PortArgs) (h : x.lpi.admin = .closed → x.lpi.condition = .normal) :
    x.configured c = portAfter x c := by
  unfold Port.configured portAfter
  by_cases hopen : x.lpi.admin = .closed ∧ c.admin ≠ .closed
  · rw [if_pos hopen, if_pos hopen]
    have hcondition : (x.lpi.configured c).condition = .normal := h hopen.1
    unfold Lpi.opens
    by_cases hf : x.lpi.faultIn = true
    · rw [if_pos hf, if_pos (show (x.lpi.configured c).faultIn = true from hf)]
      simp only [Lpi.faultEvent, hcondition]
      rfl
    · rw [if_neg hf, if_neg (show ¬ (x.lpi.configured c).faultIn = true from hf)]
      rfl
  · rw [if_neg hopen, if_neg hopen]
    rfl

/-- No live lease is bound to the port. -/
theorem liveOnPort_eq_nil_iff (v : Lsv) (p : PortNo) :
    v.liveOnPort p = [] ↔ ∀ l : LeaseNo, Live v.leases[l] → v.leases[l].port ≠ p := by
  rw [List.eq_nil_iff_forall_not_mem]
  refine forall_congr' fun l => ?_
  rw [mem_liveOnPort, live_iff, not_and]

/-- PORT_SET with its arguments in range: the two refusals in their order, and the configuration (R126). -/
theorem exec_portSet_inRange {ph : Phase} {s : State} (h : Ready .portSet ph s) {p : PortNo} {c : PortArgs}
    (hp : argHigh ph s 0 = p.val) (hadmin : argLow ph s 0 = code [Admin.closed, .drain, .opened] c.admin)
    (hformat : argHigh ph s 1 = code [Format.f32, .f24] c.format) (hhold : argHigh ph s 2 ≠ 0)
    (hcode : c.code = BitVec.ofNat 8 (argLow ph s 1)) (hfault : c.faultHold = argHigh ph s 2)
    (hrecovery : c.recoveryTime = argLow ph s 2) (hrelease : c.releaseTimeout = argLow ph s 3) :
    exec (.portSet ph) s =
      .next (if c.format ≠ s.ports[p].lpi.format ∧ s.ports[p].lpi.admin ≠ .closed then done0 ph .portBusy s
        else if c.admin = .closed ∧ s.ports[p].lpi.admin ≠ .closed ∧ s.lsv.liveOnPort p ≠ [] then done0 ph .portBusy s
        else done0 ph .ok (withPort s p (s.ports[p].configured c))) := by
  have hargs : portArgs ((atRun .portSet ph s).arg 0) ((atRun .portSet ph s).arg 1) ((atRun .portSet ph s).arg 2)
      ((atRun .portSet ph s).arg 3) = some c := by
    obtain ⟨admin, format, x, faultHold, recoveryTime, releaseTimeout⟩ := c
    dsimp only at hadmin hformat hcode hfault hrecovery hrelease
    subst hcode hfault hrecovery hrelease
    simp only [portArgs, hi_atRun_arg, lo_atRun_arg, hadmin, hformat, code_admin, code_format, adminOf_toCode,
      formatOf_toCode, if_neg hhold]
    rfl
  rw [exec_portSet h]
  simp only [runPortSet, hi_atRun_arg, below_some p hp, hargs, atRun_ports, atRun_lsv, completeBare_atRun]
  simp only [State.completeBare, complete_atRun_withPort, done0]

/-- PORT_SET (R126, R112). -/
theorem portSetConfiguresPort : PortSetConfiguresPort := by
  intro ph s h
  refine ⟨fun hout => ?_, fun p c hp hadmin hformat hhold hcode hfault hrecovery hrelease => ?_⟩
  · rw [← hi_atRun_arg .portSet, ← lo_atRun_arg .portSet, ← hi_atRun_arg .portSet, ← hi_atRun_arg .portSet] at hout
    rw [exec_portSet h, runPortSet_badArg hout, completeBare_atRun]
  rw [exec_portSet_inRange h hp hadmin hformat hhold hcode hfault hrecovery hrelease]
  refine ⟨fun hf hopen => ?_, fun hclose hopen hlive => ?_, fun hf hclose hcondition => ?_⟩
  · rw [if_pos ⟨hf, hopen⟩]
  · obtain ⟨l, hl, hport⟩ := hlive
    have hsome : s.lsv.liveOnPort p ≠ [] := fun hnil => (liveOnPort_eq_nil_iff _ _).mp hnil l hl hport
    rw [if_pos (c := c.admin = .closed ∧ s.ports[p].lpi.admin ≠ .closed ∧ s.lsv.liveOnPort p ≠ [])
      ⟨hclose, hopen, hsome⟩, ite_self]
  · have hformats : ¬ (c.format ≠ s.ports[p].lpi.format ∧ s.ports[p].lpi.admin ≠ .closed) :=
      fun hx => hf.elim (fun heq => hx.1 heq) (fun heq => hx.2 heq)
    have hclosing : ¬ (c.admin = .closed ∧ s.ports[p].lpi.admin ≠ .closed ∧ s.lsv.liveOnPort p ≠ []) := by
      rintro ⟨hc, hopen, hsome⟩
      obtain hx | hx | hx := hclose
      · exact hx hc
      · exact hopen hx
      · exact hsome ((liveOnPort_eq_nil_iff _ _).mpr hx)
    rw [if_neg hformats, if_neg hclosing, configured_eq c hcondition]

/-- Settles O21. -/
theorem portCommandsReadAndSet : Obligations.PortCommandsReadAndSet := ⟨portReadReportsPort, portSetConfiguresPort⟩

end Sys2Proof.Spec
end

section
/-! PROOF. METER_READ, METER_SET, COUNTERS_READ and REFUSAL_READ (R107, R108, R166, R167): O22 and O23. -/

namespace Sys2Proof.Spec

open Sys2Proof.Machine

/-! ### Meters -/

theorem exec_meterRead {ph : Phase} {s : State} (h : Ready .meterRead ph s) :
    exec (.meterRead ph) s = .next (runMeterRead (atRun .meterRead ph s)) :=
  congrArg Host.Outcome.next (hostCommand_ready runMeterRead h)

theorem exec_meterSet {ph : Phase} {s : State} (h : Ready .meterSet ph s) :
    exec (.meterSet ph) s = .next (runMeterSet (atRun .meterSet ph s)) :=
  congrArg Host.Outcome.next (hostCommand_ready runMeterSet h)

theorem fields_bursts (a b c : Nat) : fields [(12, a), (8, b), (0, c)] = word (a * 4096 + b * 256 + c) :=
  fields_eq_word (by simp only [List.foldr]; omega)

theorem fields_buckets (a b : Nat) : fields [(12, a), (8, b)] = word (a * 4096 + b * 256) :=
  fields_eq_word (by simp only [List.foldr]; omega)

theorem runMeterRead_badArg {s : State} (h : 3 < (s.arg 0).toNat ∨ 1 < (s.arg 1).toNat) :
    runMeterRead s = s.completeBare .badArg := by
  unfold runMeterRead
  obtain h | h := h
  · rw [below_none (n := 4) h]
  · rw [below_none (n := 2) h]
    cases below 4 (s.arg 0).toNat <;> rfl

/-- METER_SET with its port in range: BAD_ARG, or the new meter (R107). -/
theorem exec_meterSet_port {ph : Phase} {s : State} (h : Ready .meterSet ph s) {p : PortNo} (hp : argHigh ph s 0 = p.val) :
    exec (.meterSet ph) s =
      .next (if arg ph s 1 = 0 ∨ argLow ph s 0 = 0 ∨ 15 < argLow ph s 0 ∨ 15 < argHigh ph s 3 ∨ 127 < argLow ph s 3
        then done0 ph .badArg s
        else done0 ph .ok (withPort s p { s.ports[p] with
          cmt := newMeter (arg ph s 1) (argLow ph s 0) (arg ph s 2) (argHigh ph s 3) (argLow ph s 3) })) := by
  rw [exec_meterSet h]
  simp only [runMeterSet, hi_atRun_arg, lo_atRun_arg, toNat_atRun_arg, below_some p hp, completeBare_atRun]
  simp only [State.completeBare, complete_atRun_cmt, done0]

/-- Settles O22. -/
theorem meterCommandsReadAndSet : Obligations.MeterCommandsReadAndSet := by
  refine ⟨fun ph s h => ⟨fun hout => ?readOut, fun p m hp hm => ⟨fun hv => ?settings, fun hv => ?counts⟩⟩,
    fun ph s h => ⟨fun hout => ?setOut, fun p hp hci hcbs hcbs' hebs hmargin => ?set⟩⟩
  case readOut =>
    rw [← toNat_atRun_arg .meterRead, ← toNat_atRun_arg .meterRead] at hout
    rw [exec_meterRead h, runMeterRead_badArg hout, completeBare_atRun]
  case settings =>
    rw [exec_meterRead h]
    simp only [runMeterRead, toNat_atRun_arg, below_some p hp, below_some (n := 2) 0 hv, atRun_ports, complete_atRun, hm,
      fields_number, fields_bursts, if_true]
  case counts =>
    have hview : (1 : Fin 2) ≠ 0 := by decide
    rw [exec_meterRead h]
    simp only [runMeterRead, toNat_atRun_arg, below_some p hp, below_some (n := 2) 1 hv, atRun_ports, complete_atRun, hm,
      fields_number, fields_buckets, if_neg hview]
  case setOut =>
    obtain hp | hout := hout
    · rw [exec_meterSet h]
      simp only [runMeterSet, hi_atRun_arg, below_none (n := 4) hp, completeBare_atRun]
    · by_cases hp : argHigh ph s 0 < 4
      · rw [exec_meterSet_port h (p := ⟨argHigh ph s 0, hp⟩) rfl, if_pos hout]
      · rw [exec_meterSet h]
        simp only [runMeterSet, hi_atRun_arg, below_none (Nat.not_lt.mp hp), completeBare_atRun]
  case set =>
    rw [exec_meterSet_port h hp, if_neg (by omega)]
    rfl

/-! ### COUNTERS_READ -/

theorem exec_countersRead {ph : Phase} {s : State} (h : Ready .countersRead ph s) :
    exec (.countersRead ph) s = .next (runCountersRead (atRun .countersRead ph s)) :=
  congrArg Host.Outcome.next (hostCommand_ready runCountersRead h)

theorem runCountersRead_badArg {s : State} (h : 3 < (s.arg 0).toNat ∨ 1 < (s.arg 1).toNat) :
    runCountersRead s = s.completeBare .badArg := by
  unfold runCountersRead
  obtain h | h := h
  · rw [below_none (n := 4) h]
  · rw [below_none (n := 2) h]
    cases below 4 (s.arg 0).toNat <;> rfl

/-! ### REFUSAL_READ -/

theorem exec_refusalRead {ph : Phase} {s : State} (h : Ready .refusalRead ph s) :
    exec (.refusalRead ph) s = .next (runRefusalRead (atRun .refusalRead ph s)) :=
  congrArg Host.Outcome.next (hostCommand_ready runRefusalRead h)

/-- The two words of a refusal entry are the model's. -/
theorem entryWords_eq (e : Option Refused) : entryWords e = (refusedWord0 e, refusedWord1 e) := by
  cases e with
  | none => rfl
  | some e =>
    have hfirst : fields [(15, 1), (8, e.port.val), (6, e.lkind.val), (0, e.channel.val)] =
        word (32768 + e.port.val * 256 + e.lkind.val * 64 + e.channel.val) :=
      fields_eq_word (by simp only [List.foldr]; omega)
    rw [entryWords, hfirst, fields_bytes]
    rfl

/-- Settles O23. -/
theorem countersAndRefusalsReadAndCleared : Obligations.CountersAndRefusalsReadAndCleared := by
  refine ⟨fun ph s h => ⟨fun hout => ?out, fun p x hp hx => ⟨fun hb => ?bank0, fun hb => ?bank1⟩⟩, fun ph s h => ?refusal⟩
  case out =>
    rw [← toNat_atRun_arg .countersRead, ← toNat_atRun_arg .countersRead] at hout
    rw [exec_countersRead h, runCountersRead_badArg hout, completeBare_atRun]
  case bank0 =>
    rw [exec_countersRead h]
    simp only [runCountersRead, toNat_atRun_arg, below_some p hp, below_some (n := 2) 0 hb, atRun_ports,
      complete_atRun_cch, hx, fields_number, if_true]
    rfl
  case bank1 =>
    have hbank : (1 : Fin 2) ≠ 0 := by decide
    rw [exec_countersRead h]
    simp only [runCountersRead, toNat_atRun_arg, below_some p hp, below_some (n := 2) 1 hb, atRun_ports,
      complete_atRun_cch, hx, fields_number, if_neg hbank]
    rfl
  case refusal =>
    rw [exec_refusalRead h]
    simp only [runRefusalRead, atRun_ntu, complete_atRun_ntu, entryWords_eq]
    rfl

end Sys2Proof.Spec
end

section
/-! PROOF. HIGHWAY_READ, HIGHWAY_SET, SWEEP_READ and SWEEP_SET (R141, R142, R153, R154): O24. -/

namespace Sys2Proof.Spec

open Sys2Proof.Machine

/-! ### The highway -/

theorem exec_highwayRead {ph : Phase} {s : State} (h : Ready .highwayRead ph s) :
    exec (.highwayRead ph) s = .next (runHighwayRead (atRun .highwayRead ph s)) :=
  congrArg Host.Outcome.next (hostCommand_ready runHighwayRead h)

theorem exec_highwaySet {ph : Phase} {s : State} (h : Ready .highwaySet ph s) :
    exec (.highwaySet ph) s = .next (runHighwaySet (atRun .highwaySet ph s)) :=
  congrArg Host.Outcome.next (hostCommand_ready runHighwaySet h)

theorem code_alignment (a : Machine.Alignment) : code [Machine.Alignment.seek, .confirm, .aligned] a = a.toCode := by cases a <;> rfl

/-- RES0 of HIGHWAY_READ by its fields. -/
theorem highwayWord_eq (h : Hwi) (count : Nat) :
    fields [(14, code [Machine.Alignment.seek, .confirm, .aligned] h.alignment), (12, count), (0, h.offset.val)] =
      word (h.alignment.toCode * 16384 + count * 4096 + h.offset.val) := by
  rw [code_alignment]
  exact fields_eq_word (by simp only [List.foldr]; omega)

/-- The count that HIGHWAY_READ reports, by the state of the alignment. -/
theorem reportedCount_eq (h : Hwi) :
    h.reportedCount = (match h.alignment with | .seek => 0 | .confirm => h.confirmCount | .aligned => h.missCount) := by
  cases ha : h.alignment <;> simp only [Hwi.reportedCount, ha]

theorem highwayCommandsReadAndSet : HighwayCommandsReadAndSet := by
  refine ⟨fun ph s count h hcount => ?read, fun ph s h => ⟨fun hout => ?out, fun o ho hi => ?set⟩⟩
  case read =>
    have hreported : count = s.hwi.reportedCount := hcount.trans (reportedCount_eq s.hwi).symm
    rw [exec_highwayRead h]
    simp only [runHighwayRead, atRun_hwi, complete_atRun_hwi, hreported, highwayWord_eq, fields_number, numberOr_eq_orNone]
  case out =>
    rw [exec_highwaySet h]
    by_cases ho : arg ph s 0 < 128
    · have hidle : 255 < arg ph s 1 := by omega
      simp only [runHighwaySet, toNat_atRun_arg, below_some ⟨arg ph s 0, ho⟩ rfl, if_pos hidle, completeBare_atRun]
    · simp only [runHighwaySet, toNat_atRun_arg, below_none (Nat.not_lt.mp ho), completeBare_atRun]
  case set =>
    rw [exec_highwaySet h]
    simp only [runHighwaySet, toNat_atRun_arg, below_some o ho, if_neg (Nat.not_lt.mpr hi), atRun_hwi, State.completeBare,
      complete_atRun_hwi]
    rfl

/-! ### The Sweep Timer -/

theorem exec_sweepRead {ph : Phase} {s : State} (h : Ready .sweepRead ph s) :
    exec (.sweepRead ph) s = .next (runSweepRead (atRun .sweepRead ph s)) :=
  congrArg Host.Outcome.next (hostCommand_ready runSweepRead h)

theorem exec_sweepSet {ph : Phase} {s : State} (h : Ready .sweepSet ph s) :
    exec (.sweepSet ph) s = .next (runSweepSet (atRun .sweepSet ph s)) :=
  congrArg Host.Outcome.next (hostCommand_ready runSweepSet h)

theorem sweepCode_eq (x : Sweep) : x.toCode = (match x with | .idle => 0 | .qphase => 1 | .lphase _ => 2) := by
  cases x <;> rfl

theorem sweepPosition_eq (x : Sweep) :
    orNone x.position 0xFF = (match x with | .idle | .qphase => 0xFF | .lphase n => n.val) := by
  cases x <;> rfl

/-- RES1 of SWEEP_READ's STATUS view by its fields. -/
theorem sweepWord_eq (code : Nat) (pending running hold : Bool) :
    fields [(14, code), (13, bit pending), (12, bit running), (11, bit hold)] =
      word (code * 16384 + flag pending * 8192 + flag running * 4096 + flag hold * 2048) := by
  rw [bit_eq_flag, bit_eq_flag, bit_eq_flag]
  exact fields_eq_word (by simp only [List.foldr]; omega)

/-- A view that does not exist. -/
theorem runSweepRead_badArg {s : State} (h : 1 < (s.arg 0).toNat) : runSweepRead s = s.completeBare .badArg := by
  unfold runSweepRead
  split
  case h_3 => rfl
  all_goals omega

/-- The timer that SWEEP_SET leaves is that of the statements. -/
theorem sweepConfigured_eq (t : Swt) (prescaler modulo order : Nat) :
    t.configured prescaler modulo (order == 1) =
      { t with
        prescaler := prescaler, modulo := modulo, prescalerCount := 0, counter := 0, running := decide (order = 1)
        pendingTick := if order = 1 then t.pendingTick else false
        ticksDue := 0 } := by
  by_cases ho : order = 1
  · rw [if_pos ho, decide_eq_true ho, Swt.configured, beq_iff_eq.mpr ho, Bool.and_true]
  · rw [if_neg ho, decide_eq_false ho, Swt.configured, beq_false_of_ne ho, Bool.and_false]

/-- SWEEP_SET that is Ready: the settings when all are in range, and BAD_ARG otherwise (R153). -/
theorem exec_sweepSet_eq {ph : Phase} {s : State} (h : Ready .sweepSet ph s) :
    exec (.sweepSet ph) s =
      .next (if argHigh ph s 0 ∈ [1, 2, 4, 8, 16, 32, 64, 128] ∧ arg ph s 1 ≠ 0 ∧ argLow ph s 0 ≤ 1
        then done0 ph .ok { s with swt := s.swt.configured (argHigh ph s 0) (arg ph s 1) (argLow ph s 0 == 1) }
        else done0 ph .badArg s) := by
  rw [exec_sweepSet h]
  simp only [runSweepSet, prescalerSettings, hi_atRun_arg, lo_atRun_arg, toNat_atRun_arg, atRun_swt, State.completeBare, complete_atRun_swt,
    complete_atRun, done0]

theorem sweepCommandsReadAndSet : SweepCommandsReadAndSet := by
  refine ⟨fun ph s h => ⟨fun hout => ?out, fun st position hv hst hposition => ?status, fun hv => ?counts⟩,
    fun ph s inRange h hrange => ⟨fun hout => ?setOut, fun hin => ?set⟩⟩
  case out =>
    rw [← toNat_atRun_arg .sweepRead] at hout
    rw [exec_sweepRead h, runSweepRead_badArg hout, completeBare_atRun]
  case status =>
    have hcode : st = s.swt.sweep.toCode := hst.trans (sweepCode_eq _).symm
    have hplace : position = orNone s.swt.sweep.position 0xFF := hposition.trans (sweepPosition_eq _).symm
    rw [exec_sweepRead h]
    simp only [runSweepRead, toNat_atRun_arg, hv, atRun_swt, complete_atRun_swt, hcode, hplace, sweepWord_eq, fields_bytes,
      fields_number]
    rw [atRun_pins]
  case counts =>
    rw [exec_sweepRead h]
    simp only [runSweepRead, toNat_atRun_arg, hv, atRun_swt, complete_atRun, fields_number]
  case setOut => rw [exec_sweepSet_eq h, if_neg (mt hrange.mpr hout)]
  case set => rw [exec_sweepSet_eq h, if_pos (hrange.mp hin), sweepConfigured_eq]

/-- Settles O24. -/
theorem timingCommandsReadAndSet : Obligations.TimingCommandsReadAndSet :=
  ⟨highwayCommandsReadAndSet, sweepCommandsReadAndSet⟩

end Sys2Proof.Spec
end

section
/-! PROOF. RETIRE_SCOPE and its walk (R175 to R178): O25 and O26. -/

namespace Sys2Proof.Spec

open Sys2Proof.Machine

/-! ### The walk start -/

/-- Arguments that name a scope read as that scope (R175). -/
theorem scopeArg_of_names {ph : Phase} {s : State} {sc : Scope} (h : NamesScope ph s sc) :
    scopeArg (args ph s)[(0 : Fin 4)] (args ph s)[(1 : Fin 4)] = some sc := by
  obtain ⟨reach, pinned, host⟩ := sc
  obtain ⟨hreach, hpinned, hhost⟩ := h
  dsimp only at hreach hpinned hhost
  subst hpinned hhost
  unfold scopeArg
  cases reach with
  | port p =>
    have hhi : hi (args ph s)[(0 : Fin 4)] = 0 := hreach.1
    have hlo : lo (args ph s)[(0 : Fin 4)] = p.val := hreach.2
    rw [hhi, below_some p hlo]
    rfl
  | group g =>
    have hhi : hi (args ph s)[(0 : Fin 4)] = 1 := hreach.1
    have hlo : lo (args ph s)[(0 : Fin 4)] = g.val := hreach.2
    rw [hhi, below_some g hlo]
    rfl
  | all =>
    have hhi : hi (args ph s)[(0 : Fin 4)] = 2 := hreach
    rw [hhi]
    rfl

/-- Arguments out of range name none. -/
theorem scopeArg_none {ph : Phase} {s : State}
    (h : 2 < argHigh ph s 0 ∨ (argHigh ph s 0 = 0 ∧ 3 < argLow ph s 0) ∨ (argHigh ph s 0 = 1 ∧ 31 < argLow ph s 0)) :
    scopeArg (args ph s)[(0 : Fin 4)] (args ph s)[(1 : Fin 4)] = none := by
  unfold scopeArg
  obtain h | ⟨hhi, hlo⟩ | ⟨hhi, hlo⟩ := h
  · split
    case h_4 => rfl
    all_goals
      next hhi =>
        have hhi' : argHigh ph s 0 = _ := hhi
        omega
  · have hx : hi (args ph s)[(0 : Fin 4)] = 0 := hhi
    rw [hx, below_none (show 4 ≤ lo (args ph s)[(0 : Fin 4)] from hlo)]
    rfl
  · have hx : hi (args ph s)[(0 : Fin 4)] = 1 := hhi
    rw [hx, below_none (show 32 ≤ lo (args ph s)[(0 : Fin 4)] from hlo)]
    rfl

/-- The walk start with arguments out of range. -/
theorem walkStart_badArg {s : State} (habort : s.cpt.walker.abort = false) (h : scopeArg (s.arg 0) (s.arg 1) = none) :
    walkStart s = (s.setWalker { s.cpt.walker with starting := false }).completeBare .badArg := by
  simp only [walkStart, habort, Bool.false_eq_true, if_false, h]

/-- The walk start with a scope. -/
theorem walkStart_starts {s : State} {sc : Scope} (habort : s.cpt.walker.abort = false)
    (h : scopeArg (s.arg 0) (s.arg 1) = some sc) :
    walkStart s = s.setWalker { s.cpt.walker with starting := false, scope := some sc, position := 0, count := 0 } := by
  simp only [walkStart, habort, Bool.false_eq_true, if_false, h]

theorem retireScope_whole {s : State} (hreset : s.pins.reset = false) (hidle : s.cpt.inProgress = none) :
    retireScopeStep .whole s = walkStart s.takenWalk := by
  unfold retireScopeStep
  rw [if_neg (by rw [hreset]; exact Bool.false_ne_true)]
  exact if_neg (by rw [not_busy hidle]; exact Bool.false_ne_true)

/-- The walk start is taken unless a SOFT_RESET of a valid mode abandons the walk (R182). -/
theorem retireScope_take {s : State} (hreset : s.pins.reset = false) (hstart : s.cpt.walker.starting = true)
    (hready : s.resetReady = false) : retireScopeStep .take s = walkStart s := by
  unfold retireScopeStep
  rw [if_neg (by rw [hreset]; exact Bool.false_ne_true)]
  exact if_pos (by rw [hstart, hready]; rfl)

/-- While a SOFT_RESET of a valid mode is in progress its event can be taken. -/
theorem resetReady_of {s : State} (h : s.cpt.inProgress = some .softReset) (hwaits : s.cpt.walker.resetWaits = false) :
    s.resetReady = true := (State.resetReady_iff s).mpr ⟨h, hwaits⟩

theorem retireScope_abandoned {s : State} (hready : s.resetReady = true) : retireScopeStep .take s = s := by
  unfold retireScopeStep
  split
  · rfl
  · exact if_neg (by rw [hready, Bool.not_true, Bool.and_false]; exact Bool.false_ne_true)

/-- Settles O25. -/
theorem retireScopeStartsWalk : Obligations.RetireScopeStartsWalk := by
  intro s hreset
  refine ⟨fun hidle => ⟨fun hout => congrArg Host.Outcome.next ?_, fun sc hsc => congrArg Host.Outcome.next ?_⟩,
    fun hstart habort hsoft => ⟨fun hout => congrArg Host.Outcome.next ?_, fun sc hsc => congrArg Host.Outcome.next ?_⟩,
    fun hsoft hwaits => congrArg Host.Outcome.next (retireScope_abandoned (resetReady_of hsoft hwaits))⟩
  · exact (retireScope_whole hreset hidle).trans (walkStart_badArg (s := s.takenWalk) rfl (scopeArg_none hout))
  · exact (retireScope_whole hreset hidle).trans (walkStart_starts (s := s.takenWalk) rfl (scopeArg_of_names hsc))
  · exact (retireScope_take hreset hstart (not_resetReady hsoft)).trans (walkStart_badArg habort (scopeArg_none hout))
  · exact (retireScope_take hreset hstart (not_resetReady hsoft)).trans (walkStart_starts habort (scopeArg_of_names hsc))

/-! ### The visits -/

/-- The model's test for a record in the scope is that of the statements (R176). -/
theorem includes_iff (sc : Scope) (r : Lease) : sc.includes r = true ↔ InScope sc r := by
  obtain ⟨reach, pinned, host⟩ := sc
  unfold InScope Scope.includes
  rw [Bool.and_eq_true, Bool.and_eq_true, Bool.or_eq_true, Bool.or_eq_true, Bool.not_eq_true', beq_iff_eq, and_assoc]
  refine and_congr_left' ?_
  cases reach with
  | port p => exact beq_iff_eq.trans eq_comm
  | group g => exact beq_iff_eq.trans eq_comm
  | all => exact iff_of_true rfl trivial

theorem walkRetires_iff (v : Lsv) (sc : Scope) (l : LeaseNo) :
    v.walkRetires sc l = true ↔ Live v.leases[l] ∧ InScope sc v.leases[l] := by
  rw [Lsv.walkRetires, Bool.and_eq_true, live_iff, includes_iff]

theorem walkVisitStep_at {s : State} {sc : Scope} {l : LeaseNo} (hreset : s.pins.reset = false)
    (habort : s.cpt.walker.abort = false) (hsc : s.cpt.walker.scope = some sc) (hl : s.cpt.walker.position = l.val) :
    walkVisitStep s = walkVisitAt s sc l := by
  simp only [walkVisitStep, hreset, habort, Bool.or_self, Bool.false_eq_true, if_false, hsc, below_some l hl]

/-- A visit retires and counts the record, or passes over it. -/
theorem walkRetire_cases {s t : State} {sc : Scope} {l : LeaseNo} {count : Nat}
    (h : (Live s.lsv.leases[l] ∧ InScope sc s.lsv.leases[l] ∧ count = s.cpt.walker.count + 1 ∧
        t = s.afterTables none (s.lsv.retire (some sc) .scope false l)) ∨
      (¬ (Live s.lsv.leases[l] ∧ InScope sc s.lsv.leases[l]) ∧ count = s.cpt.walker.count ∧ t = s)) :
    s.walkRetire sc l = t ∧ s.cpt.walker.count + flag (s.lsv.walkRetires sc l) = count := by
  obtain ⟨hlive, hin, hcount, ht⟩ | ⟨hnot, hcount, ht⟩ := h
  · have hretires : s.lsv.walkRetires sc l = true := (walkRetires_iff _ _ _).mpr ⟨hlive, hin⟩
    exact ⟨(if_pos hretires).trans ht.symm, by rw [hretires, hcount]; rfl⟩
  · have hpasses : ¬ s.lsv.walkRetires sc l = true := mt (walkRetires_iff _ _ _).mp hnot
    exact ⟨(if_neg hpasses).trans ht.symm, by rw [Bool.eq_false_of_not_eq_true hpasses, hcount]; rfl⟩

/-- Settles O26: the visit to lease 127 completes the command unless the walk is abandoned. -/
theorem walkVisitsLease : Obligations.WalkVisitsLease := by
  intro s t sc l count hreset habort hsc hl hvisit
  obtain ⟨ht, hcount⟩ := walkRetire_cases hvisit
  have hstep : exec .walkVisit s = .next (walkVisitAt s sc l) :=
    congrArg Host.Outcome.next (walkVisitStep_at hreset habort hsc hl)
  rw [hstep, walkVisitAt, ht, hcount]
  refine ⟨fun hgoes => congrArg _ (if_neg ?_), fun hlast hsoft => congrArg _ ((if_pos ?_).trans ?_)⟩
  · rw [Bool.and_eq_true, decide_eq_true_iff, Bool.not_eq_true', ← Bool.not_eq_true, State.resetReady_iff]
    exact fun hx => hgoes.elim (fun hne => hne hx.1) hx.2
  · rw [decide_eq_true hlast, not_resetReady hsoft]
    rfl
  · rw [fields_number, fields_number]
    rfl

end Sys2Proof.Spec
end

section
/-! PROOF. ABORT, the walk's ending and SOFT_RESET (R169, R171, R180 to R182): O27 and O28. -/

namespace Sys2Proof.Spec

open Sys2Proof.Machine

/-! ### ABORT -/

/-- A setting event twice is the event once. -/
theorem raise_raise (n : Ntu) (b : StatusBit) : (n.raise b).raise b = n.raise b := by
  unfold Ntu.raise
  rw [BitVec.or_assoc, BitVec.or_self, BitVec.and_assoc, BitVec.and_self]

/-- The event of an ABORT that is Ready: it completes with NONE. -/
theorem abortStep_ready {ph : Phase} {s : State} (h : Ready .abort ph s) : abortStep s = done0 ph .none s := by
  obtain ⟨hreset, hphase⟩ := h
  rw [abortStep, if_neg (by rw [hreset]; exact Bool.false_ne_true)]
  cases ph with
  | whole =>
    have hidle : s.cpt.inProgress = none := hphase
    rw [if_neg (by rw [hidle]; exact nofun), State.writeAbort_idle hidle]
    exact if_pos rfl
  | write => exact hphase.elim
  | take =>
    have htaken : s.cpt.inProgress = some .abort := hphase
    rw [if_pos htaken, State.takeAbort, if_pos htaken]
    rfl

/-- Of two completions in one operation the second one stands. -/
theorem completeBare_complete (s : State) (x y : ResultCode) (w0 w1 w2 w3 : Word) :
    (s.complete x w0 w1 w2 w3).completeBare y = s.completeBare y := by
  simp only [State.completeBare, State.complete, State.raise, raise_raise]

/-- ABORT written during a RETIRE_SCOPE stops the walk and nothing else. -/
theorem writeAbort_walk {s : State} (hwalk : s.cpt.inProgress = some .retireScope) :
    s.writeAbort = s.setWalker { s.cpt.walker with abort := true } := by
  rw [State.writeAbort, if_pos (busy_of_inProgress (by rw [hwalk]; exact nofun)), State.abortBusy,
    if_pos ((State.walkInProgress_iff s).mpr hwalk)]

theorem abortStep_walk {s : State} (hreset : s.pins.reset = false) (hwalk : s.cpt.inProgress = some .retireScope) :
    abortStep s = s.setWalker { s.cpt.walker with abort := true } := by
  have hnot : s.cpt.inProgress ≠ some .abort := by rw [hwalk]; exact nofun
  rw [abortStep, if_neg (by rw [hreset]; exact Bool.false_ne_true), if_neg hnot, writeAbort_walk hwalk]
  exact if_neg hnot

/-- The ABORTED completion of a RETIRE_SCOPE for whose ending no SOFT_RESET waits. -/
theorem completeAborted_alone {s : State} (hwaits : s.cpt.walker.resetWaits = false) (count position : Nat) :
    s.completeAborted count position =
      done .take .aborted (fields [(0, count)]) (fields [(0, position)]) 0 0
        (withWalker s { s.cpt.walker with starting := false, scope := none }) := by
  unfold State.completeAborted
  dsimp only
  rw [hwaits, if_neg Bool.false_ne_true, fields_number, fields_number]
  rfl

/-- With a SOFT_RESET of a bad mode waiting, that SOFT_RESET completes in the same operation (R182). -/
theorem completeAborted_waiting {s : State} (hwaits : s.cpt.walker.resetWaits = true) (count position : Nat) :
    s.completeAborted count position =
      done0 .take .badArg (withWalker s { s.cpt.walker with starting := false, scope := none, resetWaits := false }) := by
  unfold State.completeAborted
  dsimp only
  rw [hwaits, if_pos rfl, completeBare_complete]
  rfl

theorem walkStart_aborted {s : State} (habort : s.cpt.walker.abort = true) : walkStart s = s.completeAborted 0 0 := if_pos habort

/-- The ending of a walk in flight, unless a SOFT_RESET of a valid mode has abandoned it. -/
theorem walkEndingStep_ends {s : State} (hreset : s.pins.reset = false) (hscope : s.cpt.walker.scope.isSome = true)
    (habort : s.cpt.walker.abort = true) (hready : s.resetReady = false) :
    walkEndingStep s = s.completeAborted s.cpt.walker.count s.cpt.walker.position := by
  unfold walkEndingStep
  dsimp only
  rw [if_neg (by rw [hreset]; exact Bool.false_ne_true), if_pos (by rw [hscope, habort, hready]; rfl)]

theorem walkEndingStep_abandoned {s : State} (hready : s.resetReady = true) : walkEndingStep s = s := by
  unfold walkEndingStep
  dsimp only
  rw [hready, Bool.not_true, Bool.and_false, if_neg Bool.false_ne_true, ite_self]

/-- A SOFT_RESET that waits for an ending cannot be taken. -/
theorem not_resetReady_of_waits {s : State} (hwaits : s.cpt.walker.resetWaits = true) : s.resetReady = false := by
  rw [← Bool.not_eq_true, State.resetReady_iff, hwaits]
  exact fun hx => nomatch hx.2

/-- Settles O27. -/
theorem abortEndsWalk : Obligations.AbortEndsWalk := by
  intro s hreset
  refine ⟨fun ph h => congrArg Host.Outcome.next (abortStep_ready h), fun row hrow hwalk => ?row, fun c hc hr ha => ?collides,
    fun hstart habort hwaits hsoft => congrArg Host.Outcome.next ?start,
    fun hstart habort hwaits => congrArg Host.Outcome.next ?startWaiting,
    fun hscope habort hwaits hsoft => congrArg Host.Outcome.next ?ending,
    fun hscope habort hwaits => congrArg Host.Outcome.next ?endingWaiting,
    fun hsoft hwaits => congrArg Host.Outcome.next (walkEndingStep_abandoned (resetReady_of hsoft hwaits))⟩
  case row =>
    obtain rfl | rfl := hrow
    · exact congrArg Host.Outcome.next (abortStep_walk hreset hwalk)
    · exact (exec_write_abort hreset).trans (congrArg Host.Outcome.next (writeAbort_walk hwalk))
  case collides =>
    have hne {d : HostCmd} (hd : c ≠ d) : s.cpt.inProgress ≠ some d := fun hx => hd (Option.some.inj (hc.symm.trans hx))
    exact congrArg Host.Outcome.next (abortStep_collides hreset (by rw [hc]; exact nofun) (hne hr) (hne ha))
  case start =>
    rw [retireScope_take hreset hstart (not_resetReady hsoft), walkStart_aborted habort, completeAborted_alone hwaits]
    rfl
  case startWaiting =>
    rw [retireScope_take hreset hstart (not_resetReady_of_waits hwaits), walkStart_aborted habort,
      completeAborted_waiting hwaits]
  case ending => rw [walkEndingStep_ends hreset hscope habort (not_resetReady hsoft), completeAborted_alone hwaits]
  case endingWaiting =>
    rw [walkEndingStep_ends hreset hscope habort (not_resetReady_of_waits hwaits), completeAborted_waiting hwaits]

/-! ### SOFT_RESET -/

theorem resetMode_bad {w : Word} (h : 1 < w.toNat) : resetMode w = none := by
  unfold resetMode
  split
  case h_3 => rfl
  all_goals omega

theorem resetMode_clear {w : Word} (h : w.toNat = 0) : resetMode w = some .clear := by simp only [resetMode, h]

theorem resetMode_keep {w : Word} (h : w.toNat = 1) : resetMode w = some .keep := by simp only [resetMode, h]

theorem resetMode_good {w : Word} (h : w.toNat ≤ 1) : ∃ m, resetMode w = some m := by
  obtain h | h : w.toNat = 0 ∨ w.toNat = 1 := by omega
  · exact ⟨_, resetMode_clear h⟩
  · exact ⟨_, resetMode_keep h⟩

theorem takeReset_ready {s : State} (h : s.resetReady = true) : s.takeReset = s.runSoftReset := if_pos h

/-- A SOFT_RESET that is Ready runs its event: on the state taken, or on the one in progress. -/
theorem softResetStep_ready {ph : Phase} {s : State} (h : Ready .softReset ph s)
    (hwaits : ph = .take → s.cpt.walker.resetWaits = false) :
    softResetStep s = (match ph with | .take => s | .whole | .write => s.takenReset).runSoftReset := by
  obtain ⟨hreset, hphase⟩ := h
  rw [softResetStep, if_neg (by rw [hreset]; exact Bool.false_ne_true)]
  cases ph with
  | whole =>
    have hidle : s.cpt.inProgress = none := hphase
    rw [not_resetReady (by rw [hidle]; exact nofun), if_neg Bool.false_ne_true, State.writeReset_idle hidle]
    exact takeReset_ready rfl
  | write => exact hphase.elim
  | take =>
    have hready := resetReady_of hphase (hwaits rfl)
    rw [if_pos hready]
    exact takeReset_ready hready

/-- A SOFT_RESET of a valid mode written during a RETIRE_SCOPE is taken at once. -/
theorem writeReset_walk {s : State} (hwalk : s.cpt.inProgress = some .retireScope) {m : ResetMode}
    (hm : resetMode s.cpt.args[(0 : Fin 4)] = some m) : s.writeReset = s.takenReset := by
  rw [State.writeReset, if_pos (busy_of_inProgress (by rw [hwalk]; exact nofun)),
    if_pos ((State.walkInProgress_iff s).mpr hwalk), hm]

/-- One of a bad mode ends the walk and waits for its ending. -/
theorem writeReset_walk_bad {s : State} (hwalk : s.cpt.inProgress = some .retireScope)
    (hm : resetMode s.cpt.args[(0 : Fin 4)] = none) : s.writeReset = s.takenBadReset := by
  rw [State.writeReset, if_pos (busy_of_inProgress (by rw [hwalk]; exact nofun)),
    if_pos ((State.walkInProgress_iff s).mpr hwalk), hm]

theorem softResetStep_write {s : State} (hreset : s.pins.reset = false) (h : s.resetReady = false) :
    softResetStep s = s.writeReset.takeReset := by
  rw [softResetStep, if_neg (by rw [hreset]; exact Bool.false_ne_true), h, if_neg Bool.false_ne_true]

theorem softResetStep_walk {s : State} (hreset : s.pins.reset = false) (hwalk : s.cpt.inProgress = some .retireScope)
    {m : ResetMode} (hm : resetMode s.cpt.args[(0 : Fin 4)] = some m) : softResetStep s = s.takenReset.runSoftReset := by
  rw [softResetStep_write hreset (not_resetReady (by rw [hwalk]; exact nofun)), writeReset_walk hwalk hm]
  exact takeReset_ready rfl

/-- What a soft reset leaves does not depend on the taking. -/
theorem runSoftReset_mode {s : State} {m : ResetMode} (hm : resetMode (s.arg 0) = some m) :
    s.runSoftReset = (s.softReset m).completeBare .ok := by
  simp only [State.runSoftReset, hm]

/-- Settles O28. -/
theorem softResetByMode : Obligations.SoftResetByMode := by
  intro s hreset
  have hvalid {ph : Phase} {m : ResetMode} (hm : resetMode (args ph s)[(0 : Fin 4)] = some m)
      (h : (Ready .softReset ph s ∧ (ph = .take → s.cpt.walker.resetWaits = false)) ∨
        (ph = .whole ∧ s.cpt.inProgress = some .retireScope)) :
      softResetStep s = (s.softReset m).completeBare .ok := by
    obtain ⟨hready, hwaits⟩ | ⟨rfl, hwalk⟩ := h
    · rw [softResetStep_ready hready hwaits]
      cases ph with
      | take => exact runSoftReset_mode hm
      | whole => exact (runSoftReset_mode (s := s.takenReset) hm).trans (by cases m <;> rfl)
      | write => exact hready.2.elim
    · exact (softResetStep_walk hreset hwalk hm).trans
        ((runSoftReset_mode (s := s.takenReset) hm).trans (by cases m <;> rfl))
  refine ⟨fun ph h => ⟨fun h0 => congrArg Host.Outcome.next (hvalid (resetMode_clear h0) h),
    fun h1 => congrArg Host.Outcome.next (hvalid (resetMode_keep h1) h)⟩, fun ph hready hwaits hbad => congrArg Host.Outcome.next ?bad,
    fun hwalk => ⟨fun hm => ?write, fun row hrow hbad => ?waits⟩, fun c hc hcases => congrArg Host.Outcome.next ?collides⟩
  case bad =>
    rw [softResetStep_ready hready hwaits]
    cases ph with
    | take =>
      have hnone : resetMode (s.arg 0) = none := resetMode_bad hbad
      have hsame : withWalker s { s.cpt.walker with resetWaits := false } = s := by
        rw [← hwaits rfl]
        rfl
      rw [hsame, State.runSoftReset, hnone]
      rfl
    | whole =>
      have hnone : resetMode (s.takenReset.arg 0) = none := resetMode_bad hbad
      dsimp only
      rw [State.runSoftReset, hnone]
      rfl
    | write => exact hready.2.elim
  case write =>
    obtain ⟨m, hm⟩ := resetMode_good hm
    exact (exec_write_softReset hreset).trans (congrArg Host.Outcome.next (writeReset_walk hwalk hm))
  case waits =>
    have hwrite := writeReset_walk_bad hwalk (resetMode_bad hbad)
    obtain rfl | rfl := hrow
    · refine congrArg Host.Outcome.next ((softResetStep_write hreset (not_resetReady (by rw [hwalk]; exact nofun))).trans ?_)
      rw [hwrite]
      exact if_neg (by rw [not_resetReady_of_waits (s := s.takenBadReset) rfl]; exact Bool.false_ne_true)
    · exact (exec_write_softReset hreset).trans (congrArg Host.Outcome.next hwrite)
  case collides =>
    have hready : s.resetReady = false := by
      rw [← Bool.not_eq_true, State.resetReady_iff, hc]
      obtain ⟨-, hne⟩ | ⟨-, hwaits⟩ := hcases
      · exact fun hx => hne (Option.some.inj hx.1)
      · rw [hwaits]
        exact fun hx => nomatch hx.2
    have hbusy : s.cpt.inProgress ≠ none := by rw [hc]; exact nofun
    have hwalk : s.cpt.inProgress ≠ some .retireScope := by
      rw [hc]
      obtain ⟨hne, -⟩ | ⟨rfl, -⟩ := hcases
      · exact fun hx => hne (Option.some.inj hx)
      · exact nofun
    have htake : s.collided.takeReset = s.collided := if_neg (by
      rw [show s.collided.resetReady = s.resetReady from rfl, hready]
      exact Bool.false_ne_true)
    rw [softResetStep_write hreset hready, writeReset_collides hbusy hwalk, htake]
    rfl

end Sys2Proof.Spec
end

section
/-! PROOF. The interrupt status (R161 to R164) and O29. -/

namespace Sys2Proof.Spec

open Sys2Proof.Machine

/-! ### Bits of the status -/

/-- The bits that events set, and no other (R163). -/
theorem markedBits_get {b : Nat} (h : b < 7) : markedBits.getLsbD b = decide (1 ≤ b) := by
  have hall : ∀ b : Fin 7, markedBits.getLsbD b.val = decide (1 ≤ b.val) := by decide
  exact hall ⟨b, h⟩

theorem zero_get {n : Nat} (b : Nat) : (0 : BitVec n).getLsbD b = false := BitVec.getLsbD_zero

theorem one_get {b : Nat} (h : 1 ≤ b) : (1 : BitVec 7).getLsbD b = false := by
  refine BitVec.getLsbD_one.trans ?_
  rw [decide_eq_false (show ¬ b = 0 by omega), Bool.and_false]

/-- ATTN is bit 0 (R161). -/
theorem istat_attn (s : State) : s.istat.getLsbD 0 = true ↔ s.lsv.attention ≠ [] := by
  unfold State.istat
  rw [BitVec.getLsbD_or, BitVec.getLsbD_and, markedBits_get (by decide), decide_eq_false (by decide), Bool.and_false,
    Bool.false_or]
  by_cases h : s.lsv.attention = []
  · rw [if_pos h]
    exact iff_of_false nofun (not_not.mpr h)
  · rw [if_neg h]
    exact iff_of_true rfl h

/-- The stored bits read as they stand. -/
theorem istat_stored (s : State) {b : Nat} (h1 : 1 ≤ b) (h6 : b ≤ 6) : s.istat.getLsbD b = s.ntu.status.getLsbD b := by
  unfold State.istat
  rw [BitVec.getLsbD_or, BitVec.getLsbD_and, markedBits_get (by omega), decide_eq_true h1, Bool.and_true]
  split
  · rw [zero_get, Bool.or_false]
  · rw [one_get h1, Bool.or_false]

/-- A word of seven bits has no other bit. -/
theorem setWidth_get (x : BitVec 7) (b : Nat) : (x.setWidth 16).getLsbD b = x.getLsbD b := by
  rw [BitVec.getLsbD_setWidth]
  by_cases h : b < 16
  · rw [decide_eq_true h, Bool.true_and]
  · rw [BitVec.getLsbD_of_ge x b (by omega), Bool.and_false]

theorem seven_bits (x : BitVec 7) {b : Nat} (h : 7 ≤ b) : x.getLsbD b = false := BitVec.getLsbD_of_ge x b h

/-! ### Reads of the window words 10 and 11 -/

theorem readWord_istat {s : State} (h : s.pins.reset = false) : s.readWord 10 = s.istat.setWidth 16 := by
  unfold State.readWord
  rw [if_neg (by decide), if_neg (by rw [h]; exact Bool.false_ne_true), dif_neg (by decide), dif_neg (by decide),
    if_neg (by decide), if_pos (by decide)]

theorem readWord_ien {s : State} (h : s.pins.reset = false) : s.readWord 11 = s.ntu.ien.setWidth 16 := by
  unfold State.readWord
  rw [if_neg (by decide), if_neg (by rw [h]; exact Bool.false_ne_true), dif_neg (by decide), dif_neg (by decide),
    if_neg (by decide), if_neg (by decide), if_pos (by decide)]

/-! ### Writes -/

/-- A write of ISTAT clears the bits written 1 whose mark is yes (R163). -/
theorem writeStatus_get (n : Ntu) (w : Word) {b : Nat} (h : b ≤ 6) :
    (n.writeStatus w).status.getLsbD b =
      (n.status.getLsbD b && !(w.getLsbD b && n.marks.getLsbD b && decide (1 ≤ b))) := by
  have hb : b < 7 := by omega
  show (n.status &&& ~~~(w.setWidth 7 &&& n.marks &&& markedBits)).getLsbD b = _
  rw [BitVec.getLsbD_and, BitVec.getLsbD_not, BitVec.getLsbD_and, BitVec.getLsbD_and, BitVec.getLsbD_setWidth,
    markedBits_get hb, decide_eq_true hb, Bool.true_and, Bool.true_and]

theorem istatWriteStep_eq {s : State} (h : s.pins.reset = false) (w : Word) :
    istatWriteStep w s = { s with ntu := { s.ntu with status := (s.ntu.writeStatus w).status } } :=
  if_neg (by rw [h]; exact Bool.false_ne_true)

theorem ienWriteStep_eq {s : State} (h : s.pins.reset = false) (w : Word) :
    ienWriteStep w s = { s with ntu := { s.ntu with ien := w.setWidth 7 } } :=
  if_neg (by rw [h]; exact Bool.false_ne_true)

/-! ### The line -/

/-- A word is not 0 exactly when one of its bits is 1. -/
theorem ne_zero_iff_get {n : Nat} (x : BitVec n) : x ≠ 0 ↔ ∃ b, x.getLsbD b = true := by
  constructor
  · intro h
    by_contra hnone
    refine h (BitVec.eq_of_getLsbD_eq fun b _ => ?_)
    rw [zero_get, ← Bool.not_eq_true]
    exact fun hb => hnone ⟨b, hb⟩
  · rintro ⟨b, hb⟩ rfl
    rw [zero_get] at hb
    cases hb

/-- The line is asserted while an enabled bit of ISTAT is 1 (R164). -/
theorem irqLine_iff (s : State) :
    s.irqLine = true ↔
      s.pins.reset = false ∧
        ((s.ntu.ien.getLsbD 0 = true ∧ s.lsv.attention ≠ []) ∨
          ∃ b : Nat, 1 ≤ b ∧ b ≤ 6 ∧ s.ntu.ien.getLsbD b = true ∧ s.ntu.status.getLsbD b = true) := by
  rw [State.irqLine, Bool.and_eq_true, Bool.not_eq_true', bne_iff_ne, ne_zero_iff_get]
  refine and_congr_right fun _ => ⟨fun ⟨b, hb⟩ => ?_, fun h => ?_⟩
  · rw [BitVec.getLsbD_and, Bool.and_eq_true] at hb
    obtain ⟨hstat, hien⟩ := hb
    obtain hzero | hpos := Nat.eq_zero_or_pos b
    · rw [hzero] at hstat hien
      exact .inl ⟨hien, (istat_attn s).mp hstat⟩
    · have h6 : b ≤ 6 := by
        by_contra hbig
        rw [seven_bits _ (by omega)] at hien
        cases hien
      exact .inr ⟨b, hpos, h6, hien, istat_stored s hpos h6 ▸ hstat⟩
  · obtain ⟨hien, hattn⟩ | ⟨b, h1, h6, hien, hstat⟩ := h
    · exact ⟨0, by rw [BitVec.getLsbD_and, (istat_attn s).mpr hattn, hien]; rfl⟩
    · exact ⟨b, by rw [BitVec.getLsbD_and, istat_stored s h1 h6, hstat, hien]; rfl⟩

/-- Settles O29. -/
theorem interruptStatusAndLine : Obligations.InterruptStatusAndLine := by
  refine ⟨fun s h => ?read, fun s w h => ?write, fun s w h => ?enables, fun s h => readWord_ien h, irqLine_iff⟩
  case read =>
    refine ⟨s.readWord 10, congrArg Host.Outcome.next ?_, ?_⟩
    · rw [istatReadStep, if_neg (by rw [h]; exact Bool.false_ne_true)]
      rfl
    · rw [readWord_istat h]
      simp only [setWidth_get]
      exact ⟨istat_attn s, fun b => istat_stored s, fun b => seven_bits _⟩
  case write =>
    refine ⟨_, congrArg Host.Outcome.next (istatWriteStep_eq h w), fun b h1 h6 => ?_, ?_⟩
    · rw [writeStatus_get _ _ h6, decide_eq_true h1, Bool.and_true]
    · rw [writeStatus_get _ _ (by decide), decide_eq_false (by decide), Bool.and_false, Bool.not_false, Bool.and_true]
  case enables =>
    refine ⟨_, congrArg Host.Outcome.next (ienWriteStep_eq h w), fun b h6 => ?_⟩
    rw [BitVec.getLsbD_setWidth, decide_eq_true (by omega), Bool.true_and]

end Sys2Proof.Spec
end

section
/-! PROOF. The register window and its codes (R169, R171, R173, R174, R187 to R189): O30. -/

namespace Sys2Proof.Spec

open Sys2Proof.Machine

/-! ### Writes -/

/-- The words that are neither CMD, ISTAT nor IEN take a write as an argument or ignore it. -/
theorem registerWriteStep_other {n : Fin 16} (w : Word) (s : State) (h0 : n.val ≠ 0) (h10 : n.val ≠ 10)
    (h11 : n.val ≠ 11) : registerWriteStep n w s = argumentWriteStep n w s := by
  unfold registerWriteStep
  split
  case h_4 => rfl
  all_goals next h => exact absurd h (by assumption)

theorem registerWriteStep_argument {s : State} (hreset : s.pins.reset = false) (w : Word) {n : Fin 16} {i : Fin 4}
    (h : n.val = i.val + 1) :
    registerWriteStep n w s = { s with cpt := { s.cpt with args := upd s.cpt.args i w } } := by
  have hi : (⟨n.val - 1, by omega⟩ : Fin 4) = i := Fin.ext (by simp only; omega)
  rw [registerWriteStep_other w s (by omega) (by omega) (by omega), argumentWriteStep,
    if_neg (by rw [hreset]; exact Bool.false_ne_true), dif_pos (by omega), hi]

theorem registerWriteStep_ignored {s : State} (w : Word) {n : Fin 16} (h : (5 ≤ n.val ∧ n.val ≤ 9) ∨ 12 ≤ n.val) :
    registerWriteStep n w s = s := by
  rw [registerWriteStep_other w s (by omega) (by omega) (by omega), argumentWriteStep, dif_neg (by omega), ite_self]

/-- A word of the catalogue names its command (R174). -/
theorem commandOf_catalogue {w : Word} {n : Nat} {c : HostCmd} (h : (n, c) ∈ catalogue) (hw : w.toNat = n) :
    commandOf w = some c := by
  have hword : w = BitVec.ofNat 16 n := by rw [← hw, BitVec.ofNat_toNat, BitVec.setWidth_eq]
  rw [hword]
  exact commandOf_listed h

/-- A word outside the catalogue names none. -/
theorem commandOf_none {w : Word} (h : ∀ (n : Nat) (c : HostCmd), (n, c) ∈ catalogue → w.toNat ≠ n) :
    commandOf w = none :=
  List.lookup_eq_none_iff.mpr fun ⟨n, c⟩ hmem => bne_iff_ne.mpr (h n c hmem)

/-- A write of CMD is the write of the command that the word names. -/
theorem exec_write_command {s : State} (hreset : s.pins.reset = false) {w : Word} {c : HostCmd} (h : commandOf w = some c) :
    exec (.registerWrite 0 w) s = exec (hostRow c .write) s := by
  have hrow : exec (.registerWrite 0 w) s = .next (commandWriteStep w s) := rfl
  rw [hrow]
  simp only [commandWriteStep, h]
  cases c with
  | abort =>
    rw [exec_write_abort hreset]
    exact congrArg Host.Outcome.next (if_neg (by rw [hreset]; exact Bool.false_ne_true))
  | softReset =>
    rw [exec_write_softReset hreset]
    exact congrArg Host.Outcome.next (if_neg (by rw [hreset]; exact Bool.false_ne_true))
  | _ => rfl

/-- A write of a word that names no command (R169, R171). -/
theorem unknownCommandStep_eq {s : State} (hreset : s.pins.reset = false) {w : Word} (h : commandOf w = none) :
    unknownCommandStep w s = if s.busy then s.collided else s.latch.completeBare .unknown := by
  have hnames : namesCommand w = false := by rw [namesCommand, h]; rfl
  rw [unknownCommandStep, hreset, hnames]
  rfl

theorem windowWrites : WindowWrites := by
  intro s w hreset
  refine ⟨fun n => ⟨_, rfl⟩, fun n i h => congrArg Host.Outcome.next (registerWriteStep_argument hreset w h),
    fun n h => congrArg Host.Outcome.next (registerWriteStep_ignored w h), rfl, rfl,
    fun n c hmem hw => exec_write_command hreset (commandOf_catalogue hmem hw), fun hnone => ?_⟩
  have hcommand := commandOf_none hnone
  refine ⟨congrArg Host.Outcome.next ?_, fun hidle => congrArg Host.Outcome.next ?_,
    fun hbusy => congrArg Host.Outcome.next ?_⟩
  · show commandWriteStep w s = _
    simp only [commandWriteStep, hcommand]
  · rw [unknownCommandStep_eq hreset hcommand, not_busy hidle]
    rfl
  · rw [unknownCommandStep_eq hreset hcommand, busy_of_inProgress hbusy]
    rfl

/-! ### Reads -/

theorem readWord_reset {s : State} (h : s.pins.reset = true) {n : Fin 16} (hn : n ≠ 12) : s.readWord n = 0 := by
  have hval : n.val ≠ 12 := fun hx => hn (Fin.ext hx)
  unfold State.readWord
  rw [if_neg hval, if_pos h]

theorem readWord_argument {s : State} (h : s.pins.reset = false) {n : Fin 16} {i : Fin 4} (hn : n.val = i.val + 1) :
    s.readWord n = s.cpt.args[i] := by
  have hi : (⟨n.val - 1, by omega⟩ : Fin 4) = i := Fin.ext (by simp only; omega)
  unfold State.readWord
  rw [if_neg (by omega), if_neg (by rw [h]; exact Bool.false_ne_true), dif_pos (by omega)]
  exact congrArg (fun j : Fin 4 => s.cpt.args[j]) hi

theorem readWord_result {s : State} (h : s.pins.reset = false) {n : Fin 16} {i : Fin 4} (hn : n.val = i.val + 5) :
    s.readWord n = s.cpt.res[i] := by
  have hi : (⟨n.val - 5, by omega⟩ : Fin 4) = i := Fin.ext (by simp only; omega)
  unfold State.readWord
  rw [if_neg (by omega), if_neg (by rw [h]; exact Bool.false_ne_true), dif_neg (by omega), dif_pos (by omega)]
  exact congrArg (fun j : Fin 4 => s.cpt.res[j]) hi

/-- CMD and words 13 to 15 read 0000h. -/
theorem readWord_blank {s : State} (h : s.pins.reset = false) {n : Fin 16} (hn : n.val = 0 ∨ 13 ≤ n.val) :
    s.readWord n = 0 := by
  unfold State.readWord
  rw [if_neg (by omega), if_neg (by rw [h]; exact Bool.false_ne_true), dif_neg (by omega), dif_neg (by omega),
    if_neg (by omega), if_neg (by omega), if_neg (by omega)]

theorem resultCode_eq (c : ResultCode) : resultCode c = c.toCode := by cases c <;> rfl

/-- PSTAT by its fields. -/
theorem readWord_pstat {s : State} (h : s.pins.reset = false) :
    s.readWord 9 = fields [(15, bit s.cpt.inProgress.isSome), (14, bit s.cpt.collide), (0, resultCode s.cpt.last)] := by
  have hread : s.readWord 9 = s.pstat := by
    unfold State.readWord
    rw [if_neg (by decide), if_neg (by rw [h]; exact Bool.false_ne_true), dif_neg (by decide), dif_neg (by decide),
      if_pos (by decide)]
  rw [hread, State.pstat, State.busy, bit_eq_flag, bit_eq_flag, resultCode_eq]
  exact (fields_eq_word (by simp only [List.foldr]; omega)).symm

theorem windowReads : WindowReads := by
  intro s
  refine ⟨rfl, fun h n hn => readWord_reset h hn, fun h => ⟨readWord_blank h (.inl rfl),
    fun n hn => readWord_blank h (.inr hn), fun n i hn => readWord_argument h hn, fun n i hn => readWord_result h hn,
    readWord_pstat h, ?_⟩⟩
  rw [readWord_istat h, readWord_ien h]
  simp only [setWidth_get]
  exact ⟨istat_attn s, fun b => istat_stored s, fun _ _ => trivial, fun b hb => ⟨seven_bits _ hb, seven_bits _ hb⟩⟩

/-! ### Codes -/

theorem bearer_f32 (c : ChanNo) : Format.bearer .f32 c = true ↔ (1 ≤ c.val ∧ c.val ≤ 15) ∨ (17 ≤ c.val ∧ c.val ≤ 31) := by
  show (c.val != 0 && c.val != 16) = true ↔ _
  rw [Bool.and_eq_true, bne_iff_ne, bne_iff_ne]
  omega

theorem bearer_f24 (c : ChanNo) : Format.bearer .f24 c = true ↔ 1 ≤ c.val ∧ c.val ≤ 23 := by
  show (c.val != 0 && decide (c.val ≤ 23)) = true ↔ _
  rw [Bool.and_eq_true, bne_iff_ne, decide_eq_true_iff]
  omega

theorem fieldCodes : FieldCodes :=
  ⟨by decide, by decide, by decide, by decide, bearer_f32, bearer_f24, rfl, rfl⟩

/-- Settles O30. -/
theorem registerWindowAndCodes : Obligations.RegisterWindowAndCodes := ⟨windowWrites, windowReads, fieldCodes⟩

end Sys2Proof.Spec
end

section
/-! PROOF. The RESET and HOLD pins (R152, R183) and O50. -/

namespace Sys2Proof.Spec

open Sys2Proof.Machine

/-! ### While RESET is asserted -/

/-- No word of the window takes a write (R188). -/
theorem registerWriteStep_reset {s : State} (h : s.pins.reset = true) (n : Fin 16) (w : Word) :
    registerWriteStep n w s = s := by
  unfold registerWriteStep
  split
  · unfold commandWriteStep
    split
    · rw [unknownCommandStep, h, Bool.true_or, if_pos rfl]
    · exact if_pos h
    · exact if_pos h
    · exact if_pos h
    · exact hostCommand_reset _ _ _ h
  · exact if_pos h
  · exact if_pos h
  · exact if_pos h

theorem exec_hostRow_reset {s : State} (h : s.pins.reset = true) (c : HostCmd) (ph : Phase) :
    exec (hostRow c ph) s = .next s := by
  by_cases hplain : Plain c
  · obtain ⟨run, hrun⟩ := exec_hostRow hplain
    rw [hrun, hostCommand_reset c ph run h]
  · have hwrite (w : Word) : exec (.registerWrite 0 w) s = .next s :=
      congrArg Host.Outcome.next (registerWriteStep_reset h 0 w)
    cases c with
    | retireScope => exact congrArg Host.Outcome.next (if_pos h)
    | abort =>
      cases ph with
      | write => exact hwrite 0x31
      | whole => exact congrArg Host.Outcome.next (if_pos h)
      | take => exact congrArg Host.Outcome.next (if_pos h)
    | softReset =>
      cases ph with
      | write => exact hwrite 0x3E
      | whole => exact congrArg Host.Outcome.next (if_pos h)
      | take => exact congrArg Host.Outcome.next (if_pos h)
    | _ => exact absurd ⟨nofun, nofun, nofun⟩ hplain

/-- A test that asks first for RESET not asserted fails. -/
theorem guarded_reset {α : Type} {s : State} (h : s.pins.reset = true) (b : Bool) (x y : α) :
    (if (!s.pins.reset && b) = true then x else y) = y :=
  if_neg (by rw [h]; exact Bool.false_ne_true)

theorem tickReady_reset {s : State} (h : s.pins.reset = true) : s.tickReady = false := by
  rw [State.tickReady, h, Bool.not_true, Bool.and_false]

theorem phaseReady_reset {s : State} (h : s.pins.reset = true) : s.phaseReady = false := by
  rw [State.phaseReady, h]
  rfl

theorem visitReady_reset {s : State} (h : s.pins.reset = true) : s.visitReady = none := guarded_reset h _ _ _

theorem faultLevelStep_reset {s : State} (h : s.pins.reset = true) (p : PortNo) (level : Bool) :
    faultLevelStep p level s = s :=
  guarded_reset h _ _ _

/-! ### Frames while RESET is asserted -/

theorem frameStartStep_reset {s : State} (h : s.pins.reset = true) : frameStartStep s = { s with psw := s.framePsw } :=
  if_pos h

theorem signalling_eq (f : Format) : f.signalling = (match f with | .f32 => 16 | .f24 => 24) := by cases f <;> rfl

theorem framePsw_lineSel (s : State) (p : PortNo) (c : ChanNo) :
    s.framePsw.lineSel[p][c] = s.channelSel s.framePsw.slotSel p c := by
  unfold State.framePsw
  dsimp only
  rw [tab_get, tab_get]

/-- An unbound channel carries the signalling byte or the idle code (R137). -/
theorem channelSel_unbound {s : State} {p : PortNo} {c : ChanNo} (h : s.lsv.chanMap[p][c] = none)
    (content : Vector (Option Byte) 128) :
    s.channelSel content p c =
      if c = s.ports[p].lpi.format.signalling then .signalling else .byte s.hwi.idleCode := by
  have hentry : s.lsv.entry p c = none := h
  rw [State.channelSel, hentry]

/-- A CLOSED port has no signalling channel (R72). -/
theorem not_signals_closed {s : State} {p : PortNo} (h : s.ports[p].lpi.admin = .closed) : s.signals p = false := by
  rw [← Bool.not_eq_true, State.signals_iff]
  exact fun hx => hx.1 h

theorem transmitted_closed {s : State} {p : PortNo} (h : s.signals p = false) : s.transmitted p = s := by
  rw [State.transmitted, h, if_neg Bool.false_ne_true]

theorem lineBytes_get (s : State) (p : PortNo) (c : ChanNo) : (s.lineBytes p)[c] = s.sentByte p s.psw.lineSel[p][c] :=
  tab_get _ c

theorem signallingByte_silent {s : State} {p : PortNo} (h : s.signals p = false) : s.signallingByte p = 0 := by
  rw [State.signallingByte, h, if_neg Bool.false_ne_true]

/-- A line frame of a CLOSED port stores its samples and sends its selections. -/
theorem lineFrameStep_reset {s : State} (h : s.pins.reset = true) {p : PortNo} (hclosed : s.ports[p].lpi.admin = .closed)
    (rx : Vector Byte 32) (alarm : Bool) (pulse : Option Nat) (cch : Bool) :
    lineFrameStep p rx alarm pulse cch s =
      { s with psw := { s.psw with
        lineRx := upd s.psw.lineRx p rx, lineTx := upd s.psw.lineTx p (s.lineBytes p)
        carried := upd s.psw.carried p true } } := by
  unfold lineFrameStep
  dsimp only
  rw [if_pos h, State.carryLine, transmitted_closed (not_signals_closed hclosed)]

/-! ### HOLD -/

theorem resubmit_idle {t : Swt} (h : t.sweep = .idle) : t.resubmit = t := if_pos h

theorem resubmit_sweeping {t : Swt} (h : t.sweep ≠ .idle) : t.resubmit = { t with request := true } := if_neg h

/-- Settles O50. -/
theorem resetAndHoldPins : Obligations.ResetAndHoldPins := by
  intro s
  refine ⟨rfl, rfl, rfl, fun hidle => congrArg Host.Outcome.next ?holdIdle, fun hsweep => congrArg Host.Outcome.next ?holdSweep,
    fun h => ⟨exec_hostRow_reset h, congrArg Host.Outcome.next ?istat,
      ⟨s.framePsw, congrArg Host.Outcome.next (frameStartStep_reset h), rfl, rfl, rfl, rfl, fun p c hnone => ?selection⟩,
      fun p rx alarm pulse cch hclosed => ⟨s.lineBytes p,
        congrArg Host.Outcome.next (lineFrameStep_reset h hclosed rx alarm pulse cch), fun c => ⟨fun hsel => ?signalling,
          fun x hsel => ?byte⟩⟩, fun p sl at' hwIn => ?events, fun w n => ?writes⟩⟩
  case holdIdle => rw [resubmit_idle hidle]
  case holdSweep => rw [resubmit_sweeping hsweep]
  case istat =>
    rw [istatReadStep, if_pos h, readWord_reset h (by decide)]
  case selection =>
    exact (framePsw_lineSel s p c).trans (channelSel_unbound hnone _)
  case signalling =>
    rw [lineBytes_get, hsel]
    exact signallingByte_silent (not_signals_closed hclosed)
  case byte =>
    rw [lineBytes_get, hsel]
    rfl
  case events =>
    have hnext {t : State} (ht : t = s) : (.next t : Host.Outcome State Fault Refusal) = .next s := congrArg _ ht
    refine ⟨hnext (guarded_reset h _ _ _), hnext (if_pos ?_), hnext (if_pos h), hnext (if_neg ?_), hnext (if_neg ?_),
      hnext (if_neg ?_), hnext (if_neg ?_), hnext ?_, hnext ?_, hnext (faultLevelStep_reset h p true),
      hnext (faultLevelStep_reset h p false), hnext (guarded_reset h _ _ _), hnext (guarded_reset h _ _ _),
      hnext (if_pos h), hnext (if_pos h), hnext (guarded_reset h _ _ _), hnext (if_pos h), hnext (if_pos ?_)⟩
    · rw [h]
      rfl
    · rw [tickReady_reset h]
      exact Bool.false_ne_true
    · rw [tickReady_reset h]
      exact Bool.false_ne_true
    · rw [phaseReady_reset h]
      exact Bool.false_ne_true
    · rw [phaseReady_reset h]
      exact Bool.false_ne_true
    · simp only [sweepVisitStep, visitReady_reset h]
    · simp only [leaseExpiryStep, visitReady_reset h]
    · rw [h]
      rfl
  case writes =>
    refine ⟨congrArg Host.Outcome.next (registerWriteStep_reset h n w), congrArg Host.Outcome.next (if_pos h),
      congrArg Host.Outcome.next (if_pos h), congrArg Host.Outcome.next (if_pos ?_),
      congrArg Host.Outcome.next (if_pos h)⟩
    rw [h]
    rfl

end Sys2Proof.Spec
end

section
/-! PROOF. The state right after reset (R183, and the reset rule of each chapter): O51. -/

namespace Sys2Proof.Spec

open Sys2Proof.Machine

theorem reset_port (p : PortNo) : State.reset.ports[p] = Port.initial := Vector.getElem_replicate p.isLt

theorem reset_chanMap (p : PortNo) (c : ChanNo) : State.reset.lsv.chanMap[p][c] = none := initial_entry p c

theorem initialGroup_eq (g : GroupNo) :
    Group.initial g =
      { enabled := g == 0, members := if g = 0 then 15 else 0, admitNonMember := false, expiryLimit := 6
        listenerCap := 8, mask := 7, talker := none, listeners := [] } := rfl

theorem reset_lineTx (p : PortNo) (c : ChanNo) : State.reset.psw.lineTx[p][c] = if c = 16 then 0x00 else 0x7F := by
  have hport : State.reset.psw.lineTx[p] = tab 32 fun c => if c.val = 16 then (0x00 : Byte) else 0x7F :=
    Vector.getElem_replicate p.isLt
  rw [hport, tab_get]
  exact if_congr (Fin.ext_iff (b := 16)).symm rfl rfl

theorem resetValues : ResetValues := by
  refine ⟨initial_lease, reset_chanMap, initial_slot, rfl, rfl, rfl, rfl, rfl, rfl, fun g => ?group, fun p => ?port, rfl, ?swt,
    ?hwi, fun _ => rfl, reset_lineTx, ?cpt, rfl, rfl⟩
  case group => exact (initial_group g).trans (initialGroup_eq g)
  case port =>
    rw [reset_port]
    decide
  case swt => decide
  case hwi => decide
  case cpt => decide

/-! ### Invariants -/

theorem initialPort_bounded : Port.initial.Bounded := by
  refine ⟨?_, nofun, ⟨?_, ?_, ?_, ?_, ?_, ?_, ?_⟩, ?_, ?_⟩ <;> decide

theorem initialPort_idle : Cch.initial.Idle ∧ Cch.initial.queue = [] := ⟨⟨rfl, rfl, rfl, rfl⟩, rfl⟩

theorem reset_cch (p : PortNo) : State.reset.ports[p].cch.Idle ∧ State.reset.ports[p].cch.queue = [] := by
  rw [reset_port]
  exact initialPort_idle

/-- No lease is live after reset. -/
theorem reset_dead {l : LeaseNo} (h : State.reset.lsv.leases[l].live = true) : False := initial_dead h

theorem invariantsHoldAtReset : InvariantsHoldAtReset := by
  have hlisted := Listed.initial
  refine ⟨⟨fun p => ?bounded, by decide, by decide⟩, Tied.initial.grouped, ⟨fun l _ hst => ?active, fun l hst => ?waiting⟩,
    ⟨hlisted.once, hlisted.exact, fun l _ => ?notices⟩, Tied.initial.mapped, fun l hl => (reset_dead hl).elim,
    (slotted_iff _).mpr SlotsExact.initial, ⟨fun p _ => reset_cch p, fun p _ => (reset_cch p).1⟩,
    fun l hl => (reset_dead hl).elim⟩
  case bounded =>
    rw [reset_port]
    exact initialPort_bounded
  case active => exact (reset_dead ((Lease.live_iff _).mpr (.inl hst))).elim
  case waiting => exact (reset_dead ((Lease.live_iff _).mpr (.inr (.inl hst)))).elim
  case notices => exact congrArg Lease.notices (initial_lease l)

/-- Settles O51. -/
theorem resetState : Obligations.ResetState := ⟨resetValues, invariantsHoldAtReset⟩

end Sys2Proof.Spec
end

section
/-! PROOF. Unsolicited replies (R83, R84): O14. -/

namespace Sys2Proof.Spec

open Sys2Proof.Machine

theorem placeAll_single (serving : Option PortNo) (ports : Vector Port 4) (u : Unsolicited) :
    placeAll serving ports [u] = placeOne serving ports u := rfl

/-- A port that does not answer is sent nothing. -/
theorem placeOne_silent {serving : Option PortNo} {ports : Vector Port 4} {u : Unsolicited}
    (h : ports[u.port].lpi.answers = false) : placeOne serving ports u = ports := by
  rw [placeOne, h]
  rfl

theorem placeOne_room {serving : Option PortNo} {ports : Vector Port 4} {u : Unsolicited}
    (h : ports[u.port].lpi.answers = true) (hroom : ports[u.port].cch.queue.length < unsolicitedRoom serving u.port) :
    placeOne serving ports u = upd ports u.port { ports[u.port] with cch := ports[u.port].cch.append u.reply } := by
  unfold placeOne
  dsimp only
  rw [h, Bool.not_true, if_neg Bool.false_ne_true, if_pos hroom]

theorem placeOne_full {serving : Option PortNo} {ports : Vector Port 4} {u : Unsolicited}
    (h : ports[u.port].lpi.answers = true) (hfull : unsolicitedRoom serving u.port ≤ ports[u.port].cch.queue.length) :
    placeOne serving ports u = upd ports u.port { ports[u.port] with cch := ports[u.port].cch.loseReply } := by
  unfold placeOne
  dsimp only
  rw [h, Bool.not_true, if_neg Bool.false_ne_true, if_neg (Nat.not_lt.mpr hfull)]

/-- A port that does not answer is CLOSED, FAULTED or RECOVERING. -/
theorem answers_eq_false {l : Lpi} (h : l.admin = .closed ∨ l.condition = .faulted ∨ l.condition = .recovering) :
    l.answers = false := by
  rw [← Bool.not_eq_true, Lpi.answers_iff]
  rintro ⟨hopen, hcondition⟩
  obtain hx | hx | hx := h
  · exact hopen hx
  · rw [hx] at hcondition
    exact hcondition.elim nofun nofun
  · rw [hx] at hcondition
    exact hcondition.elim nofun nofun

/-- The part after a table operation (R20, R84). -/
theorem afterTables_eq (s : State) (serving : Option PortNo) (o : TableOp) :
    s.afterTables serving o =
      { s with
        lsv := o.lsv, ports := placeAll serving s.ports o.out
        ntu := if o.tapEnded = true then event 6 s.ntu else s.ntu } := by
  unfold State.afterTables State.raiseIf
  cases o.tapEnded <;> rfl

/-- Settles O14. -/
theorem repliesPlacedOrDropped : Obligations.RepliesPlacedOrDropped := by
  refine ⟨fun serving ports u x hx => ⟨fun hsilent => ?silent, fun hopen hcondition => ⟨fun hroom => ?room, fun hfull => ?full⟩⟩,
    fun serving ports u us => ⟨rfl, rfl⟩, fun serving s o => afterTables_eq s serving o⟩
  case silent =>
    rw [hx] at hsilent
    rw [placeAll_single, placeOne_silent (answers_eq_false hsilent)]
  case room =>
    subst hx
    rw [placeAll_single]
    exact placeOne_room ((Lpi.answers_iff _).mpr ⟨hopen, hcondition⟩) hroom
  case full =>
    subst hx
    rw [placeAll_single, placeOne_full ((Lpi.answers_iff _).mpr ⟨hopen, hcondition⟩) hfull, Cch.loseReply, saturate_eq]
end Sys2Proof.Spec
end

section
/-! PROOF. Bytes of a message in progress (R72, R75, R76): O31. -/

namespace Sys2Proof.Spec

open Sys2Proof.Machine

theorem receiveByte_taken {s : State} {p : PortNo} (h : Assembles s p) (b : Byte) :
    s.receiveByte p b = s.setCch p (s.ports[p].cch.receive b) :=
  if_pos ((assembles_iff s p).mpr h)

theorem assembles_eq_false {s : State} {p : PortNo} (h : ¬ Assembles s p) : s.assembles p = false := by
  rw [← Bool.not_eq_true, assembles_iff]
  exact h

theorem receiveByte_ignored {s : State} {p : PortNo} (h : ¬ Assembles s p) (b : Byte) : s.receiveByte p b = s :=
  if_neg (by rw [assembles_eq_false h]; exact Bool.false_ne_true)

theorem hunting_iff (a : Assembly) : a.hunting = true ↔ a = .hunt := by
  cases a <;> simp only [Assembly.hunting, reduceCtorEq]

theorem hunting_eq_false {a : Assembly} (h : a ≠ .hunt) : a.hunting = false := by
  rw [← Bool.not_eq_true, hunting_iff]
  exact h

theorem receive_marked {c : Cch} {b : Byte} (h : Marked b) : c.receive b = c.header b := if_pos h

theorem receive_unmarked {c : Cch} {b : Byte} (h : ¬ Marked b) : c.receive b = c.continuation b := if_neg h

theorem header_hunt {c : Cch} (h : c.assembly = .hunt) (b : Byte) : c.header b = { c with assembly := .gather1 b } := by
  simp only [Cch.header, h]

/-- A header byte in GATHER ends the message in progress, which counts one FRAGMENT (R76). -/
theorem header_gather {c : Cch} (h : c.assembly ≠ .hunt) (b : Byte) :
    c.header b = { c with
      assembly := .gather1 b, counters := { c.counters with fragment := counted c.counters.fragment } } := by
  unfold Cch.header
  split
  · next hh => exact absurd hh h
  · rw [Counters.addFragment, saturate_eq_counted]

theorem headerInHuntStep_taken {s : State} {p : PortNo} {b : Byte} (hb : Marked b) (ha : s.ports[p].cch.assembly = .hunt) :
    headerInHuntStep p b s = s.receiveByte p b :=
  if_pos (by rw [show isHeader b = true from hb, ha]; rfl)

theorem headerInGatherStep_taken {s : State} {p : PortNo} {b : Byte} (hb : Marked b)
    (ha : s.ports[p].cch.assembly ≠ .hunt) : headerInGatherStep p b s = s.receiveByte p b :=
  if_pos (by rw [show isHeader b = true from hb, hunting_eq_false ha]; rfl)

theorem continuationInGatherStep_taken {s : State} {p : PortNo} {b : Byte} (hb : ¬ Marked b)
    (ha : s.ports[p].cch.assembly ≠ .hunt) (hfull : s.ports[p].cch.assembly.full = false) :
    continuationInGatherStep p b s = s.receiveByte p b :=
  if_pos (by rw [(isHeader_eq_false_iff b).mpr hb, hunting_eq_false ha, hfull]; rfl)

/-- Settles O31. -/
theorem signallingBytesAssembled : Obligations.SignallingBytesAssembled := by
  rintro s p b _ rfl
  refine ⟨fun hs => ⟨fun hb ha => congrArg Host.Outcome.next ?hunt, fun hb ha => congrArg Host.Outcome.next ?gather,
    fun b1 hb ha => congrArg Host.Outcome.next ?second, fun b1 b2 hb ha => congrArg Host.Outcome.next ?third⟩,
    fun hs => ?ignored⟩
  case hunt => rw [headerInHuntStep_taken hb ha, receiveByte_taken hs, receive_marked hb, header_hunt ha]; rfl
  case gather => rw [headerInGatherStep_taken hb ha, receiveByte_taken hs, receive_marked hb, header_gather ha]; rfl
  case second =>
    rw [continuationInGatherStep_taken hb (by rw [ha]; exact nofun) (by rw [ha]; rfl), receiveByte_taken hs,
      receive_unmarked hb]
    simp only [Cch.continuation, ha]
    rfl
  case third =>
    rw [continuationInGatherStep_taken hb (by rw [ha]; exact nofun) (by rw [ha]; rfl), receiveByte_taken hs,
      receive_unmarked hb]
    simp only [Cch.continuation, ha]
    rfl
  case ignored =>
    have hsame := receiveByte_ignored hs b
    refine ⟨congrArg Host.Outcome.next ?_, congrArg Host.Outcome.next ?_, congrArg Host.Outcome.next ?_,
      congrArg Host.Outcome.next ?_⟩
    · rw [headerInHuntStep, hsame, ite_self]
    · rw [headerInGatherStep, hsame, ite_self]
    · unfold continuationInGatherStep
      dsimp only
      rw [hsame, ite_self]
    · rw [messageCompleteStep, assembles_eq_false hs, Bool.and_false, if_neg Bool.false_ne_true]

end Sys2Proof.Spec
end

section
/-! PROOF. The fourth byte of the head reply (R74, R82): O33. -/

namespace Sys2Proof.Spec

open Sys2Proof.Machine

/-! ### The bytes of a reply -/

theorem code_replyKind (k : ReplyKind) :
    code [ReplyKind.grant, .wait, .refuse, .released, .status, .revoked] k + 1 = k.toCode := by
  cases k <;> rfl

theorem check_lt (r : Reply) : r.check < 128 := Nat.mod_lt _ (by decide)

/-- The check brings the sum of the four values to a multiple of 128 (R74). -/
theorem check_sums (r : Reply) : (r.value 0 + r.value 1 + r.value 2 + r.check) % 128 = 0 := by
  unfold Reply.check
  omega

theorem byte_check_toNat (r : Reply) : (r.byte 3).toNat = r.check := by
  have hlt := check_lt r
  show (BitVec.ofNat 8 r.check).toNat = _
  rw [BitVec.toNat_ofNat]
  omega

/-! ### The row -/

/-- A port has its signalling channel exactly as the statements say (R71, R114). -/
theorem signals_iff_signals (s : State) (p : PortNo) : s.signals p = true ↔ Signals s p := State.signals_iff s p

theorem fourthByteNext_iff (s : State) (p : PortNo) :
    s.fourthByteNext p = true ↔ Signals s p ∧ s.ports[p].cch.queue ≠ [] ∧ s.ports[p].cch.sent = 3 := by
  rw [State.fourthByteNext, Bool.and_eq_true, Bool.and_eq_true, signals_iff_signals, Bool.not_eq_true',
    List.isEmpty_eq_false_iff, beq_iff_eq, and_assoc]

theorem replySentStep_idle {s : State} {p : PortNo}
    (h : ¬ Signals s p ∨ s.ports[p].cch.queue = [] ∨ s.ports[p].cch.sent ≠ 3) : replySentStep p s = s := by
  have hnot : s.fourthByteNext p = false := by
    rw [← Bool.not_eq_true, fourthByteNext_iff]
    rintro ⟨hsignals, hqueue, hsent⟩
    obtain hx | hx | hx := h
    · exact hx hsignals
    · exact hqueue hx
    · exact hx hsent
  rw [replySentStep, hnot, Bool.and_false, if_neg Bool.false_ne_true]

theorem replySentStep_sends {s : State} {p : PortNo} (hreset : s.pins.reset = false) (h : s.fourthByteNext p = true) :
    replySentStep p s =
      { s.transmitted p with
        psw := s.psw.sendByte p s.psw.formats[p].signalling (s.signallingByte p) }.pollServing := by
  rw [replySentStep, hreset, h]
  rfl

theorem transmitted_signalling {s : State} {p : PortNo} (h : Signals s p) :
    s.transmitted p = s.setCch p s.ports[p].cch.advance :=
  if_pos ((signals_iff_signals s p).mpr h)

theorem signallingByte_signalling {s : State} {p : PortNo} (h : Signals s p) : s.signallingByte p = s.ports[p].cch.txByte :=
  if_pos ((signals_iff_signals s p).mpr h)

theorem txByte_cons {c : Cch} {r : Reply} {rest : List Reply} (h : c.queue = r :: rest) : c.txByte = r.byte c.sent := by
  simp only [Cch.txByte, h]

theorem advance_last {c : Cch} {r : Reply} {rest : List Reply} (h : c.queue = r :: rest) (hsent : c.sent = 3) :
    c.advance = { c with queue := rest, sent := 0 } := by
  simp only [Cch.advance, h, if_pos hsent]

/-- Settles O33. -/
theorem replySentLeavesQueue : Obligations.ReplySentLeavesQueue := by
  refine ⟨fun s p h => congrArg Host.Outcome.next (replySentStep_idle h), ?_⟩
  rintro s p r rest _ hreset hsignals rfl hqueue hsent
  have hnext : s.fourthByteNext p = true :=
    (fourthByteNext_iff s p).mpr ⟨hsignals, by rw [hqueue]; exact List.cons_ne_nil _ _, hsent⟩
  refine ⟨r.byte 3, congrArg Host.Outcome.next ?_, ?_, ?_⟩
  · rw [replySentStep_sends hreset hnext, pollServing_eq_requesting, transmitted_signalling hsignals,
      signallingByte_signalling hsignals, txByte_cons hqueue, advance_last hqueue hsent, hsent]
    rfl
  · rw [byte_check_toNat]
    exact check_lt r
  · rw [byte_check_toNat, code_replyKind]
    exact check_sums r

end Sys2Proof.Spec
end

section
/-! PROOF. A serving (R79, R83, R91 to R93, R165): the request that is taken, the state that it leaves, and O34. -/

namespace Sys2Proof.Spec

open Sys2Proof.Machine

/-! ### The port served (R91, R92) -/

/-- The ports in the order that follows the pointer, its own port last. -/
theorem after_eq (q : PortNo) : PortNo.after q = (List.finRange 4).map fun k => q + k + 1 := by
  have hall : ∀ q : PortNo, PortNo.after q = (List.finRange 4).map fun k => q + k + 1 := by decide
  exact hall q

theorem eligible_iff (s : State) (p : PortNo) : s.ports[p].eligible = true ↔ Eligible s p := Port.eligible_iff _

/-- The first eligible port of the order is served. -/
theorem Serves.nextPort_eq {s : State} {p : PortNo} {m : Message} (h : Serves s p m) : s.nextPort = some p := by
  obtain ⟨-, -, -, k, rfl, hk, hfirst⟩ := h
  unfold State.nextPort
  rw [after_eq, List.find?_map, Option.map_eq_some_iff]
  refine ⟨k, List.find?_eq_some_iff_getElem.mpr ⟨(eligible_iff s _).mpr hk, k.val, by simp, by simp, fun j hj => ?_⟩, rfl⟩
  have hnot := hfirst ⟨j, by omega⟩ hj
  rw [← eligible_iff, Bool.not_eq_true] at hnot
  simpa using hnot

/-- Without an eligible port the order has no port to serve. -/
theorem nextPort_none {s : State} (h : ∀ p : PortNo, ¬ Eligible s p) : s.nextPort = none :=
  List.find?_eq_none.mpr fun p _ => mt (eligible_iff s p).mp (h p)

/-! ### The state that a serving leaves -/

/-- The refusal record takes a refusal as the statements say (R165). -/
theorem recordRefusal_eq (n : Ntu) (e : Refused) :
    n.recordRefusal e = { n with
      first := (match n.first with | none => some e | some f => some f), latest := some e } := by
  cases hf : n.first <;> simp only [Ntu.recordRefusal, hf] <;> rfl

/-- The solicited reply at the tail, with the counters of a REFUSE (R83, R89). -/
theorem answered_eq (c : Cch) (reply : Reply) (reason : Option Reason) :
    c.answered reply reason = { c with queue := c.queue ++ [reply], counters := countReply c.counters reason } := by
  cases reason with
  | none => rfl
  | some x => simp only [Cch.answered, Counters.addRefusal, saturate_eq_counted, countReply]; rfl

/-- The refusal record and the REFUSE bit after a serving. -/
theorem noteRefusal_eq (s : State) (p : PortNo) (m : Message) (reason : Option Reason) :
    s.noteRefusal p m reason = { s with ntu := noteReply s.ntu p m reason } := by
  cases reason with
  | none => rfl
  | some x =>
    simp only [State.noteRefusal, recordRefusal_eq]
    cases hf : s.ntu.first <;> simp only [noteReply, hf] <;> rfl

/-- A serving that handles its message so leaves the state of the statements. -/
theorem serve_eq (s : State) (p : PortNo) (m : Message) :
    (s.serve p m).afterServing =
      served s p m (s.serveMessage p m).op (s.serveMessage p m).meter (s.serveMessage p m).reply
        (s.serveMessage p m).reason := by
  unfold State.serve State.afterServing
  dsimp only
  rw [pollServing_eq_requesting, noteRefusal_eq, answered_eq, afterTables_eq]
  rfl

/-- A serving request that serves message `m` of port `p`. -/
theorem exec_serving {s : State} {p : PortNo} {m : Message} (h : Serves s p m) :
    exec .serving s =
      .next (served s p m (s.serveMessage p m).op (s.serveMessage p m).meter (s.serveMessage p m).reply
        (s.serveMessage p m).reason) := by
  have hnext := h.nextPort_eq
  obtain ⟨hreset, hrequested, hbuf, -⟩ := h
  have hserve : s.serveNext = s.serve p m := by simp only [State.serveNext, hnext, hbuf]
  have hstep : servingStep s = s.serveNext.afterServing := by
    rw [servingStep, hreset, hrequested]
    rfl
  rw [← serve_eq, ← hserve]
  exact congrArg Host.Outcome.next hstep

/-- The same with the parts of the handling named. -/
theorem exec_serving_of {s : State} {p : PortNo} {m : Message} (h : Serves s p m) {o : TableOp} {meter : Cmt} {reply : Reply}
    {reason : Option Reason}
    (hd : s.serveMessage p m = { op := o, meter := meter, reply := reply, reason := reason }) :
    exec .serving s = .next (served s p m o meter reply reason) := by
  rw [exec_serving h, hd]

/-! ### The solicited reply (R87) -/

theorem claimMetered_reply (s : State) (p : PortNo) (m : Message) (k : LeaseKind) :
    (s.claimMetered p m k).reply.tag = m.tag ∧ (s.claimMetered p m k).reply.channel = m.channel := by
  unfold State.claimMetered
  dsimp only
  split
  · exact ⟨rfl, rfl⟩
  · split
    · exact ⟨rfl, rfl⟩
    · split
      · exact ⟨rfl, rfl⟩
      · exact ⟨rfl, rfl⟩

/-- Every answer carries the tag and the channel of its message. -/
theorem serveMessage_reply (s : State) (p : PortNo) (m : Message) :
    (s.serveMessage p m).reply.tag = m.tag ∧ (s.serveMessage p m).reply.channel = m.channel := by
  unfold State.serveMessage
  split
  · unfold State.serveClaim
    dsimp only
    split
    · exact ⟨rfl, rfl⟩
    · exact claimMetered_reply s p m _
    · exact ⟨rfl, rfl⟩
  · unfold State.serveRelease
    dsimp only
    split
    · exact ⟨rfl, rfl⟩
    · split
      · exact ⟨rfl, rfl⟩
      · exact ⟨rfl, rfl⟩
  · unfold State.serveRefresh
    dsimp only
    split
    · exact ⟨rfl, rfl⟩
    · split
      · exact ⟨rfl, rfl⟩
      · exact ⟨rfl, rfl⟩
  · unfold State.serveQuery
    dsimp only
    split
    · exact ⟨rfl, rfl⟩
    · exact ⟨rfl, rfl⟩
  · exact ⟨rfl, rfl⟩

/-! ### What a serving consumes (R79, R92) -/

/-- The port served after the unsolicited replies are placed: its message is consumed. -/
theorem served_port (s : State) (p : PortNo) (m : Message) (o : TableOp) (meter : Cmt) (reply : Reply)
    (reason : Option Reason) :
    ∃ (queue : List Reply) (counters : Counters),
      (served s p m o meter reply reason).ports[p] = { s.ports[p] with
        cmt := meter
        cch := { s.ports[p].cch with
          bufA := s.ports[p].cch.bufB, bufB := none, queue := queue ++ [reply], counters := counters } } := by
  obtain ⟨queue, counters, hframe⟩ := placeAll_frame (some p)
    (upd s.ports p { s.ports[p] with
      cmt := meter, cch := { s.ports[p].cch with bufA := s.ports[p].cch.bufB, bufB := none } }) o.out p
  rw [upd_get_self] at hframe
  refine ⟨queue, countReply counters reason, ?_⟩
  unfold served requesting
  dsimp only
  rw [upd_get_self, hframe]

/-- Another port keeps its buffers and its meter. -/
theorem served_other (s : State) (p : PortNo) (m : Message) (o : TableOp) (meter : Cmt) (reply : Reply)
    (reason : Option Reason) {q : PortNo} (h : q ≠ p) :
    ∃ (queue : List Reply) (counters : Counters),
      (served s p m o meter reply reason).ports[q] =
        { s.ports[q] with cch := { s.ports[q].cch with queue := queue, counters := counters } } := by
  obtain ⟨queue, counters, hframe⟩ := placeAll_frame (some p)
    (upd s.ports p { s.ports[p] with
      cmt := meter, cch := { s.ports[p].cch with bufA := s.ports[p].cch.bufB, bufB := none } }) o.out q
  rw [upd_get_other _ (Ne.symm h)] at hframe
  refine ⟨queue, counters, ?_⟩
  unfold served requesting
  dsimp only
  rw [upd_get_other _ (Ne.symm h), hframe]

/-- Settles O34. -/
theorem servingTurn : Obligations.ServingTurn := by
  refine ⟨fun s hreset hrequested hnone => congrArg Host.Outcome.next ?lapse, fun s hrequested => congrArg Host.Outcome.next ?idle,
    fun s p m h => ⟨_, exec_serving h, rfl, ?_⟩⟩
  case lapse =>
    have hany : s.anyEligible = false := by
      rw [← Bool.not_eq_true, State.anyEligible_iff]
      exact fun ⟨p, hp⟩ => hnone p ((eligible_iff s p).mp hp)
    have hstep : servingStep s = s.serveNext.afterServing := by
      rw [servingStep, hreset, hrequested]
      rfl
    have hserve : s.serveNext = s := by simp only [State.serveNext, nextPort_none hnone]
    rw [hstep, hserve]
    exact if_neg (by
      rw [show State.anyEligible { s with cpr := { s.cpr with requested := false } } = s.anyEligible from rfl, hany]
      exact Bool.false_ne_true)
  case idle => rw [servingStep, hrequested, Bool.and_false, if_neg Bool.false_ne_true]
  obtain ⟨queue, counters, hport⟩ := served_port s p m (s.serveMessage p m).op (s.serveMessage p m).meter
    (s.serveMessage p m).reply (s.serveMessage p m).reason
  obtain ⟨htag, hchannel⟩ := serveMessage_reply s p m
  rw [hport]
  refine ⟨rfl, rfl, fun q hq => ?other, (s.serveMessage p m).reply, List.getLast?_concat, htag, hchannel⟩
  case other =>
    obtain ⟨_, _, hother⟩ := served_other s p m (s.serveMessage p m).op (s.serveMessage p m).meter
      (s.serveMessage p m).reply (s.serveMessage p m).reason hq
    rw [hother]
    exact ⟨rfl, rfl, rfl⟩

end Sys2Proof.Spec
end

section
/-! PROOF. REFRESH, QUERY and RELEASE served (R104 to R106): O35 and O36. -/

namespace Sys2Proof.Spec

open Sys2Proof.Machine

/-! ### The handling by the kind of the message (R93) -/

theorem serveMessage_claim {s : State} {p : PortNo} {m : Message} (h : m.kind = 1) :
    s.serveMessage p m = s.serveClaim p m := by
  rw [State.serveMessage, h]
  rfl

theorem serveMessage_release {s : State} {p : PortNo} {m : Message} (h : m.kind = 2) :
    s.serveMessage p m = s.serveRelease p m := by
  rw [State.serveMessage, h]
  rfl

theorem serveMessage_refresh {s : State} {p : PortNo} {m : Message} (h : m.kind = 3) :
    s.serveMessage p m = s.serveRefresh p m := by
  rw [State.serveMessage, h]
  rfl

theorem serveMessage_query {s : State} {p : PortNo} {m : Message} (h : m.kind = 4) :
    s.serveMessage p m = s.serveQuery p m := by
  rw [State.serveMessage, h]
  rfl

/-- A refused message leaves the state of the statements. -/
theorem exec_serving_refuse {s : State} {p : PortNo} {m : Message} (h : Serves s p m) {meter : Cmt} {reason : Reason}
    (hd : s.serveMessage p m = s.refuse meter m reason) : exec .serving s = .next (refusedState s p m meter reason) :=
  exec_serving_of h hd

/-! ### The slot that a STATUS reports (R105, R106) -/

theorem shownSlot_own {v : Lsv} {r : Lease} {sl : SlotNo} (hst : r.state = .active) (hk : r.kind ≠ .listen)
    (hslot : r.slot = some sl) : v.shownSlot r = sl := by
  rw [Lsv.shownSlot, if_pos hst, if_neg hk, hslot]
  rfl

/-- An ACTIVE listener reports its talker's slot. -/
theorem shownSlot_talker {v : Lsv} {r : Lease} {t : LeaseNo} {sl : SlotNo} (hst : r.state = .active) (hk : r.kind = .listen)
    (ht : v.groups[r.group].talker = some t) (hslot : v.leases[t].slot = some sl) : v.shownSlot r = sl := by
  rw [Lsv.shownSlot, if_pos hst, if_pos hk, Lsv.talkerSlot, ht, Option.bind_some, hslot]
  rfl

theorem shownSlot_none {v : Lsv} {r : Lease} (hst : r.state ≠ .active) : v.shownSlot r = 0 := if_neg hst

/-! ### REFRESH -/

theorem serveRefresh_noLease {s : State} {p : PortNo} {m : Message} (h : s.lsv.chanMap[p][m.channel] = none) :
    s.serveRefresh p m = s.refuse s.ports[p].cmt m .noLease := by
  have hentry : s.lsv.entry p m.channel = none := h
  simp only [State.serveRefresh, hentry]

theorem serveRefresh_host {s : State} {p : PortNo} {m : Message} {l : LeaseNo} (h : s.lsv.chanMap[p][m.channel] = some l)
    (ho : s.lsv.leases[l].origin = .host) : s.serveRefresh p m = s.refuse s.ports[p].cmt m .hostOwned := by
  have hentry : s.lsv.entry p m.channel = some l := h
  simp only [State.serveRefresh, hentry, ho]

theorem serveRefresh_signaled {s : State} {p : PortNo} {m : Message} {l : LeaseNo}
    (h : s.lsv.chanMap[p][m.channel] = some l) (ho : s.lsv.leases[l].origin = .signaled) :
    s.serveRefresh p m =
      { op := quiet { s.lsv with leases := upd s.lsv.leases l { s.lsv.leases[l] with idle := 0, tag := some m.tag } }
        meter := s.ports[p].cmt
        reply := answer m .status s.lsv.leases[l].state.field (s.lsv.shownSlot s.lsv.leases[l]), reason := none } := by
  have hentry : s.lsv.entry p m.channel = some l := h
  simp only [State.serveRefresh, hentry, ho]
  rfl

theorem refreshRenewsLease : RefreshRenewsLease := by
  intro s p m h hkind
  have hd := serveMessage_refresh (s := s) (p := p) hkind
  refine ⟨fun hnone => exec_serving_refuse h (hd.trans (serveRefresh_noLease hnone)), ?_⟩
  rintro l _ hentry rfl
  refine ⟨fun ho => exec_serving_refuse h (hd.trans (serveRefresh_host hentry ho)), fun ho second shown hcases => ?_⟩
  have hanswer : s.lsv.leases[l].state.field = second ∧ s.lsv.shownSlot s.lsv.leases[l] = shown := by
    obtain ⟨hst, rfl, ⟨hk, hslot⟩ | ⟨t, hk, ht, hslot⟩⟩ | ⟨hst, rfl, rfl⟩ | ⟨hst, rfl, rfl⟩ := hcases
    · exact ⟨by rw [hst]; rfl, shownSlot_own hst hk hslot⟩
    · exact ⟨by rw [hst]; rfl, shownSlot_talker hst hk ht hslot⟩
    · exact ⟨by rw [hst]; rfl, shownSlot_none (by rw [hst]; exact nofun)⟩
    · exact ⟨by rw [hst]; rfl, shownSlot_none (by rw [hst]; exact nofun)⟩
  obtain ⟨rfl, rfl⟩ := hanswer
  exact exec_serving_of h (hd.trans (serveRefresh_signaled hentry ho))

/-! ### QUERY -/

theorem serveQuery_none {s : State} {p : PortNo} {m : Message} (h : s.lsv.chanMap[p][m.channel] = none) :
    s.serveQuery p m =
      { op := quiet s.lsv, meter := s.ports[p].cmt, reply := answer m .status 0 0, reason := none } := by
  have hentry : s.lsv.entry p m.channel = none := h
  simp only [State.serveQuery, hentry]
  rfl

theorem serveQuery_some {s : State} {p : PortNo} {m : Message} {l : LeaseNo} (h : s.lsv.chanMap[p][m.channel] = some l) :
    s.serveQuery p m =
      { op := quiet s.lsv, meter := s.ports[p].cmt
        reply := answer m .status s.lsv.leases[l].state.field (s.lsv.shownSlot s.lsv.leases[l]), reason := none } := by
  have hentry : s.lsv.entry p m.channel = some l := h
  simp only [State.serveQuery, hentry]
  rfl

theorem queryReportsState : QueryReportsState := by
  intro s p m h hkind
  have hd := serveMessage_query (s := s) (p := p) hkind
  refine ⟨fun hnone => exec_serving_of h (hd.trans (serveQuery_none hnone)), ?_⟩
  rintro l _ hentry rfl
  have hstatus {second : Fin 4} {shown : Fin 128} (hs : s.lsv.leases[l].state.field = second)
      (ht : s.lsv.shownSlot s.lsv.leases[l] = shown) :
      exec .serving s = .next (served s p m (quiet s.lsv) s.ports[p].cmt (answer m .status second shown) none) := by
    subst hs ht
    exact exec_serving_of h (hd.trans (serveQuery_some hentry))
  refine ⟨fun sl hk hst hslot => hstatus (by rw [hst]; rfl) (shownSlot_own hst hk hslot),
    fun t sl hk hst ht hslot => hstatus (by rw [hst]; rfl) (shownSlot_talker hst hk ht hslot),
    fun hst => hstatus (by rw [hst]; rfl) (shownSlot_none (by rw [hst]; exact nofun))⟩

/-- Settles O35. -/
theorem refreshAndQueryAnswered : Obligations.RefreshAndQueryAnswered := ⟨refreshRenewsLease, queryReportsState⟩

/-! ### RELEASE -/

theorem serveRelease_noLease {s : State} {p : PortNo} {m : Message} (h : s.lsv.chanMap[p][m.channel] = none) :
    s.serveRelease p m = s.refuse s.ports[p].cmt m .noLease := by
  have hentry : s.lsv.entry p m.channel = none := h
  simp only [State.serveRelease, hentry]

theorem serveRelease_host {s : State} {p : PortNo} {m : Message} {l : LeaseNo} (h : s.lsv.chanMap[p][m.channel] = some l)
    (ho : s.lsv.leases[l].origin = .host) : s.serveRelease p m = s.refuse s.ports[p].cmt m .hostOwned := by
  have hentry : s.lsv.entry p m.channel = some l := h
  simp only [State.serveRelease, hentry, ho]

theorem serveRelease_signaled {s : State} {p : PortNo} {m : Message} {l : LeaseNo}
    (h : s.lsv.chanMap[p][m.channel] = some l) (ho : s.lsv.leases[l].origin = .signaled) :
    s.serveRelease p m =
      { op := s.lsv.retire s.cpt.walker.scope .lineRelease false l, meter := s.ports[p].cmt
        reply := answer m .released s.lsv.leases[l].kind.field 0, reason := none } := by
  have hentry : s.lsv.entry p m.channel = some l := h
  simp only [State.serveRelease, hentry, ho]
  rfl

theorem field_val (k : LeaseKind) : k.field.val = k.toCode := by cases k <;> rfl

/-- Settles O36. -/
theorem releaseRetiresLease : Obligations.ReleaseRetiresLease := by
  intro s p m h hkind
  have hd := serveMessage_release (s := s) (p := p) hkind
  refine ⟨fun hnone => exec_serving_refuse h (hd.trans (serveRelease_noLease hnone)), ?_⟩
  rintro l _ hentry rfl
  refine ⟨fun ho => exec_serving_refuse h (hd.trans (serveRelease_host hentry ho)), fun ho kind hk => ?_⟩
  have hfield : s.lsv.leases[l].kind.field = kind := Fin.ext (by rw [field_val, hk, code_leaseKind])
  rw [← hfield]
  exact exec_serving_of h (hd.trans (serveRelease_signaled hentry ho))

end Sys2Proof.Spec
end

section
/-! PROOF. CLAIMs (R35, R36, R57, R58, R62, R63, R96, R98 to R103): O37 to O40. -/

namespace Sys2Proof.Spec

open Sys2Proof.Machine

/-! ### Steps 1 to 5 of R98 -/

theorem kindOf_lkind (k : Fin 4) : kindOf k.val = none ↔ k = 3 := by
  have hall : ∀ k : Fin 4, kindOf k.val = none ↔ k = 3 := by decide
  exact hall k

/-- A CLAIM meets a walk by port or group as the statements say (R99). -/
theorem scopeReaches_eq (sc : Option Scope) (p : PortNo) (g : GroupNo) :
    scopeReaches sc p g =
      (match sc with
        | none => false
        | some sc => match sc.reach with
          | .port q => decide (q = p)
          | .group h => decide (h = g)
          | .all => true) := by
  cases sc with
  | none => rfl
  | some x => cases hr : x.reach <;> simp only [scopeReaches, Reach.covers, hr] <;> rfl

/-- The early refusals of the statements are the model's, in the same order. -/
theorem earlyRefusal_eq (s : State) (p : PortNo) (m : Message) : s.earlyRefusal p m = earlyRefusal s p m := by
  unfold State.earlyRefusal earlyRefusal
  dsimp only
  refine if_congr .rfl rfl (if_congr (Bool.not_eq_true' _).to_iff rfl (if_congr (kindOf_lkind _) rfl
    (if_congr ?scope rfl (if_congr Option.isSome_iff_ne_none rfl (if_congr (Bool.not_eq_true' _).to_iff rfl
      (if_congr ?member rfl rfl))))))
  case scope => exact iff_of_eq (congrArg (· = true) (scopeReaches_eq s.cpt.walker.scope p m.group))
  case member => rw [Bool.and_eq_true, Bool.not_eq_true', Bool.not_eq_true']

/-! ### The meter (R96) -/

/-- A claim that is not refused early and finds a red meter is refused RATE. -/
theorem colour_red {m : Cmt} (hc : m.committed = 0) (he : m.excess = 0) : m.colour = .red := by
  rw [Cmt.colour, hc, he]
  rfl

theorem colour_green {m : Cmt} (hc : 0 < m.committed) : m.colour = .green := if_pos hc

theorem colour_amber {m : Cmt} (hc : m.committed = 0) (he : 0 < m.excess) : m.colour = .amber := by
  rw [Cmt.colour, hc, if_neg (Nat.lt_irrefl 0), if_pos he]

/-- The colour of a claim that finds a token, with its margin and the meter after it. -/
theorem Metered.colour {s : State} {p : PortNo} {m : Message} {n : LeaseNo} {margin : Nat} {meter : Cmt}
    (h : Metered s p m n margin meter) :
    s.ports[p].cmt.colour ≠ .red ∧ s.ports[p].cmt.marginFor s.ports[p].cmt.colour = margin ∧
      s.ports[p].cmt.take s.ports[p].cmt.colour = meter := by
  obtain ⟨-, -, ⟨hc, rfl, rfl⟩ | ⟨hc, he, rfl, rfl⟩⟩ := h
  · rw [colour_green hc]
    exact ⟨nofun, rfl, rfl⟩
  · rw [colour_amber hc he]
    exact ⟨nofun, rfl, rfl⟩

/-! ### The handling of a CLAIM -/

theorem kindOf_isSome {s : State} {p : PortNo} {m : Message} (h : earlyRefusal s p m = none) :
    ∃ k, kindOf m.lkind.val = some k := by
  refine Option.ne_none_iff_exists'.mp fun hnone => ?_
  rw [← earlyRefusal_eq] at h
  unfold State.earlyRefusal at h
  dsimp only at h
  rw [if_pos hnone] at h
  split at h
  · cases h
  · split at h <;> cases h

theorem serveClaim_refused {s : State} {p : PortNo} {m : Message} {reason : Reason}
    (h : earlyRefusal s p m = some reason) : s.serveClaim p m = s.refuse s.ports[p].cmt m reason := by
  rw [← earlyRefusal_eq] at h
  simp only [State.serveClaim, h]

theorem serveClaim_metered {s : State} {p : PortNo} {m : Message} {k : LeaseKind} (h : earlyRefusal s p m = none)
    (hk : kindOf m.lkind.val = some k) : s.serveClaim p m = s.claimMetered p m k := by
  rw [← earlyRefusal_eq] at h
  simp only [State.serveClaim, h, hk]

theorem claimMetered_rate {s : State} {p : PortNo} {m : Message} (k : LeaseKind) (h : s.ports[p].cmt.colour = .red) :
    s.claimMetered p m k = s.refuse s.ports[p].cmt m .rate := by
  simp only [State.claimMetered, h, if_true]
  rfl

theorem claimMetered_tableFull {s : State} {p : PortNo} {m : Message} (k : LeaseKind) (h : s.ports[p].cmt.colour ≠ .red)
    (hfull : ∀ l : LeaseNo, s.lsv.leases[l].state ≠ .free) :
    s.claimMetered p m k = s.refuse (s.ports[p].cmt.take s.ports[p].cmt.colour) m .tableFull := by
  simp only [State.claimMetered, if_neg h, (lowestFree_eq_none_iff _).mpr hfull]

/-- A claim with a token and a FREE record that its kind refuses. -/
theorem Metered.refused {s : State} {p : PortNo} {m : Message} {n : LeaseNo} {margin : Nat} {meter : Cmt}
    (h : Metered s p m n margin meter) {k : LeaseKind} {reason : Reason}
    (hx : s.lsv.admitLease s.cpt.walker.scope (faulty s p) margin (claimed p m k) n = .refused reason) :
    s.claimMetered p m k = s.refuse meter m reason := by
  obtain ⟨hcolour, hmargin, hmeter⟩ := h.colour
  have hadmit : s.lsv.admitLease s.scope s.ports[p].lpi.faulty margin (claimRecord p m k) n = .refused reason := hx
  simp only [State.claimMetered, if_neg hcolour, h.2.1.lowestFree_eq, hmargin, hmeter, hadmit]

/-- A claim with a token and a FREE record that its kind admits. -/
theorem Metered.made {s : State} {p : PortNo} {m : Message} {n : LeaseNo} {margin : Nat} {meter : Cmt}
    (h : Metered s p m n margin meter) {k : LeaseKind} {o : TableOp} {kind : ReplyKind} {sl : SlotNo}
    (hx : s.lsv.admitLease s.cpt.walker.scope (faulty s p) margin (claimed p m k) n = .made o kind sl) :
    s.claimMetered p m k = { op := o, meter := meter, reply := answer m kind k.field sl, reason := none } := by
  obtain ⟨hcolour, hmargin, hmeter⟩ := h.colour
  have hadmit : s.lsv.admitLease s.scope s.ports[p].lpi.faulty margin (claimRecord p m k) n = .made o kind sl := hx
  simp only [State.claimMetered, if_neg hcolour, h.2.1.lowestFree_eq, hmargin, hmeter, hadmit]
  rfl

/-- The refusal of step 8 as the part's state. -/
theorem exec_claim_refused {s : State} {p : PortNo} {m : Message} {n : LeaseNo} {margin : Nat} {meter : Cmt} {k : LeaseKind}
    {reason : Reason} (h : Serves s p m) (hkind : m.kind = 1) (hm : Metered s p m n margin meter)
    (hk : kindOf m.lkind.val = some k)
    (hx : s.lsv.admitLease s.cpt.walker.scope (faulty s p) margin (claimed p m k) n = .refused reason) :
    exec .serving s = .next (refusedState s p m meter reason) :=
  exec_serving_refuse h ((serveMessage_claim hkind).trans ((serveClaim_metered hm.1 hk).trans (hm.refused hx)))

/-- The admission of step 8 as the part's state. -/
theorem exec_claim_made {s : State} {p : PortNo} {m : Message} {n : LeaseNo} {margin : Nat} {meter : Cmt} {k : LeaseKind}
    {o : TableOp} {kind : ReplyKind} {sl : SlotNo} (h : Serves s p m) (hkind : m.kind = 1)
    (hm : Metered s p m n margin meter) (hk : kindOf m.lkind.val = some k)
    (hx : s.lsv.admitLease s.cpt.walker.scope (faulty s p) margin (claimed p m k) n = .made o kind sl) :
    exec .serving s = .next (served s p m o meter (answer m kind k.field sl) none) :=
  exec_serving_of h ((serveMessage_claim hkind).trans ((serveClaim_metered hm.1 hk).trans (hm.made hx)))

/-! ### Refusals before the lease kind matters -/

theorem serveMessage_badKind {s : State} {p : PortNo} {m : Message} (h : m.kind ∉ [1, 2, 3, 4]) :
    s.serveMessage p m = s.refuse s.ports[p].cmt m .badKind := by
  have hall : ∀ k : Fin 8, k ∉ [1, 2, 3, 4] → k.val ≠ 1 ∧ k.val ≠ 2 ∧ k.val ≠ 3 ∧ k.val ≠ 4 := by decide
  obtain ⟨h1, h2, h3, h4⟩ := hall m.kind h
  unfold State.serveMessage
  split
  · next hk => exact absurd hk h1
  · next hk => exact absurd hk h2
  · next hk => exact absurd hk h3
  · next hk => exact absurd hk h4
  · rfl

/-- Settles O37. -/
theorem claimRefusedBeforeAdmission : Obligations.ClaimRefusedBeforeAdmission := by
  intro s p m h
  refine ⟨fun hkind => exec_serving_refuse h (serveMessage_badKind hkind),
    fun hkind reason hx => exec_serving_refuse h ((serveMessage_claim hkind).trans (serveClaim_refused hx)),
    fun hkind hx hc he => ?rate, fun hkind hx hfull => ?tableFull⟩
  case rate =>
    obtain ⟨k, hk⟩ := kindOf_isSome hx
    exact exec_serving_refuse h ((serveMessage_claim hkind).trans
      ((serveClaim_metered hx hk).trans (claimMetered_rate k (colour_red hc he))))
  case tableFull =>
    obtain ⟨k, hk⟩ := kindOf_isSome hx
    have hrefused {colour : Colour} (hc : s.ports[p].cmt.colour = colour) (hred : colour ≠ .red) :
        exec .serving s = .next (refusedState s p m (s.ports[p].cmt.take colour) .tableFull) := by
      subst hc
      exact exec_serving_refuse h ((serveMessage_claim hkind).trans
        ((serveClaim_metered hx hk).trans (claimMetered_tableFull k hred hfull)))
    exact ⟨fun hc => hrefused (colour_green hc) nofun, fun hc he => hrefused (colour_amber hc he) nofun⟩

/-! ### A slot from the pool (R35, R36, R101) -/

theorem admitLease_pool {v : Lsv} (sc : Option Scope) (fault : Bool) (margin : Nat) {r : Lease} (n : LeaseNo)
    (h : r.kind = .duplex ∨ (r.kind = .talk ∧ v.groups[r.group].talker = none)) :
    v.admitLease sc fault margin r n = v.grantFromPool sc fault margin r n := by
  obtain hk | ⟨hk, ht⟩ := h
  · simp only [Lsv.admitLease, hk]
  · simp only [Lsv.admitLease, hk, ht]

theorem poolTest_iff (v : Lsv) (c : ClassNo) (margin : Nat) :
    v.poolTest c margin = true ↔ v.floors[c] + margin < v.freeList.length := decide_eq_true_iff

theorem grantFromPool_low {v : Lsv} (sc : Option Scope) (fault : Bool) {margin : Nat} {r : Lease} (n : LeaseNo)
    (h : v.freeList.length ≤ v.floors[r.cls] + margin) : v.grantFromPool sc fault margin r n = .refused .poolLow := by
  have htest : v.poolTest r.cls margin = false := by
    rw [← Bool.not_eq_true, poolTest_iff]
    exact Nat.not_lt.mpr h
  simp only [Lsv.grantFromPool, htest]

theorem grantFromPool_grants {v : Lsv} (sc : Option Scope) (fault : Bool) {margin : Nat} {r : Lease} (n : LeaseNo)
    {sl : SlotNo} {rest : List SlotNo} (hfree : v.freeList = sl :: rest)
    (h : v.floors[r.cls] + margin < v.freeList.length) :
    v.grantFromPool sc fault margin r n =
      .made { lsv := (v.create sc fault (.taken sl) r n).1, out := (v.create sc fault (.taken sl) r n).2, tapEnded := false }
        .grant sl := by
  have hhead : v.freeList.head? = some sl := by rw [hfree]; rfl
  simp only [Lsv.grantFromPool, (poolTest_iff v r.cls margin).mpr h, hhead]

/-- Settles O38. -/
theorem claimGrantedFromPool : Obligations.ClaimGrantedFromPool := by
  intro s p m n margin meter k h hkind hm hcases
  have hk : kindOf m.lkind.val = some k ∧ k.field = m.lkind ∧
      ((claimed p m k).kind = .duplex ∨
        ((claimed p m k).kind = .talk ∧ s.lsv.groups[(claimed p m k).group].talker = none)) := by
    obtain ⟨hl, rfl⟩ | ⟨hl, rfl, ht⟩ := hcases
    · rw [hl]
      exact ⟨rfl, rfl, .inl rfl⟩
    · rw [hl]
      exact ⟨rfl, rfl, .inr ⟨rfl, ht⟩⟩
  obtain ⟨hlkind, hfield, hpool⟩ := hk
  refine ⟨fun hlow => ?_, fun sl rest made hfree hgoes hmade => ?_⟩
  · exact exec_claim_refused h hkind hm hlkind ((admitLease_pool _ _ _ _ hpool).trans (grantFromPool_low _ _ _ hlow))
  · subst hmade
    rw [← hfield]
    exact exec_claim_made h hkind hm hlkind
      ((admitLease_pool _ _ _ _ hpool).trans (grantFromPool_grants _ _ _ hfree hgoes))

/-! ### The talker's slot (R57, R58) -/

theorem admitLease_talker {v : Lsv} (sc : Option Scope) (fault : Bool) (margin : Nat) {r : Lease} (n : LeaseNo)
    {t : LeaseNo} (hk : r.kind = .talk) (ht : v.groups[r.group].talker = some t) :
    v.admitLease sc fault margin r n = v.preemptTalker sc fault r n t := by
  simp only [Lsv.admitLease, hk, ht]

theorem yields_iff (r : Lease) : r.yields = true ↔ r.origin = .signaled ∧ r.pinned = false := by
  rw [Lease.yields, Bool.and_eq_true, beq_iff_eq, Bool.not_eq_true']

theorem preemptTalker_busy {v : Lsv} (sc : Option Scope) (fault : Bool) {r : Lease} (n : LeaseNo) {t : LeaseNo}
    (h : v.leases[t].origin = .host ∨ v.leases[t].pinned = true ∨ r.cls ≤ v.leases[t].cls) :
    v.preemptTalker sc fault r n t = .refused .talkBusy := by
  have hstays : (v.leases[t].yields && decide (v.leases[t].cls < r.cls)) = false := by
    rw [← Bool.not_eq_true, Bool.and_eq_true, yields_iff, decide_eq_true_iff]
    rintro ⟨⟨hsignaled, hpinned⟩, hcls⟩
    obtain hx | hx | hx := h
    · rw [hsignaled] at hx
      cases hx
    · rw [hpinned] at hx
      cases hx
    · exact absurd hcls (Fin.not_lt.mpr hx)
  simp only [Lsv.preemptTalker, hstays]

theorem preemptTalker_passes {v : Lsv} (sc : Option Scope) (fault : Bool) {r : Lease} (n : LeaseNo) {t : LeaseNo}
    {sl : SlotNo} (hsignaled : v.leases[t].origin = .signaled) (hpinned : v.leases[t].pinned = false)
    (hcls : v.leases[t].cls < r.cls) (hslot : v.leases[t].slot = some sl) :
    v.preemptTalker sc fault r n t =
      .made
        { lsv := ((v.retire sc .preempted true t).lsv.create sc fault (.passed sl) r n).1
          out := (v.retire sc .preempted true t).out ++
            ((v.retire sc .preempted true t).lsv.create sc fault (.passed sl) r n).2
          tapEnded := (v.retire sc .preempted true t).tapEnded } .grant sl := by
  have hgoes : (v.leases[t].yields && decide (v.leases[t].cls < r.cls)) = true := by
    rw [Bool.and_eq_true, yields_iff, decide_eq_true_iff]
    exact ⟨⟨hsignaled, hpinned⟩, hcls⟩
  simp only [Lsv.preemptTalker, hgoes, hslot]

/-- Settles O39. -/
theorem claimPreemptsTalker : Obligations.ClaimPreemptsTalker := by
  intro s p m n t margin meter h hkind hm hl ht
  have hlkind : kindOf m.lkind.val = some .talk := by rw [hl]; rfl
  have hadmit := admitLease_talker (v := s.lsv) (r := claimed p m .talk) s.cpt.walker.scope (faulty s p) margin n rfl ht
  refine ⟨fun hbusy => ?_, fun sl gone made hsignaled hpinned hcls hslot hgone hmade => ?_⟩
  · exact exec_claim_refused h hkind hm hlkind (hadmit.trans (preemptTalker_busy _ _ _ hbusy))
  · subst hgone hmade
    exact exec_claim_made h hkind hm hlkind (hadmit.trans (preemptTalker_passes _ _ _ hsignaled hpinned hcls hslot))

end Sys2Proof.Spec
end

section
/-! PROOF. The victim of a LISTEN claim (R63), and O40. -/

namespace Sys2Proof.Spec

open Sys2Proof.Machine

/-! ### The victim search -/

/-- One step of the victim search: a later listener of no higher class replaces the one found. -/
def chosenVictim (v : Lsv) (best : Option LeaseNo) (l : LeaseNo) : Option LeaseNo :=
  match best with
  | none => some l
  | some b => if v.leases[l].cls ≤ v.leases[b].cls then some l else some b

theorem victim_eq (v : Lsv) (g : GroupNo) :
    v.victim g = (v.groups[g].listeners.filter fun l => v.leases[l].yields).foldl (chosenVictim v) none := rfl

theorem chosenVictim_cases (v : Lsv) (best : Option LeaseNo) (l : LeaseNo) :
    chosenVictim v best l = some l ∨ chosenVictim v best l = best := by
  cases best with
  | none => exact .inl rfl
  | some b =>
    by_cases h : v.leases[l].cls ≤ v.leases[b].cls
    · exact .inl (if_pos h)
    · exact .inr (if_neg h)

/-- What the search finds is one of the listeners searched. -/
theorem foldl_chosenVictim_mem {v : Lsv} {ls : List LeaseNo} {b : LeaseNo} (h : ls.foldl (chosenVictim v) none = some b) :
    b ∈ ls := by
  have hchosen := foldl_choice_mem (f := chosenVictim v) (fun best x y hxy => ?_) h
  · exact hchosen.resolve_right nofun
  · obtain hx | hx := chosenVictim_cases v best x
    · exact .inl (Option.some.inj (hxy.symm.trans hx))
    · exact .inr (hx.symm.trans hxy)

/-- Listeners of higher class after the one found do not replace it. -/
theorem foldl_chosenVictim_keeps {v : Lsv} {b : LeaseNo} {ls : List LeaseNo}
    (h : ∀ j ∈ ls, v.leases[b].cls < v.leases[j].cls) : ls.foldl (chosenVictim v) (some b) = some b := by
  induction ls with
  | nil => rfl
  | cons x xs ih =>
    have hx : chosenVictim v (some b) x = some b := if_neg (Fin.not_le.mpr (h x List.mem_cons_self))
    rw [List.foldl_cons, hx]
    exact ih fun j hj => h j (List.mem_cons_of_mem x hj)

/-- The search finds the last listener of the lowest class. -/
theorem foldl_chosenVictim_eq {v : Lsv} {b : LeaseNo} {as bs : List LeaseNo}
    (hbefore : ∀ j ∈ as, v.leases[b].cls ≤ v.leases[j].cls) (hafter : ∀ j ∈ bs, v.leases[b].cls < v.leases[j].cls) :
    (as ++ b :: bs).foldl (chosenVictim v) none = some b := by
  have hb : chosenVictim v (as.foldl (chosenVictim v) none) b = some b := by
    cases hc : as.foldl (chosenVictim v) none with
    | none => rfl
    | some c => exact if_pos (hbefore c (foldl_chosenVictim_mem hc))
  rw [List.foldl_append, List.foldl_cons, hb]
  exact foldl_chosenVictim_keeps hafter

theorem candidate_iff (v : Lsv) (g : GroupNo) (l : LeaseNo) :
    Candidate v g l ↔ l ∈ v.groups[g].listeners ∧ v.leases[l].yields = true := by
  rw [yields_iff]
  rfl

/-- The victim of the statements is the one that the search finds. -/
theorem Victim.victim_eq {v : Lsv} {g : GroupNo} {b : LeaseNo} (h : Victim v g b) (hnodup : v.groups[g].listeners.Nodup) :
    v.victim g = some b := by
  obtain ⟨hcandidate, hbest⟩ := h
  obtain ⟨hmem, hyields⟩ := (candidate_iff v g b).mp hcandidate
  obtain ⟨as, bs, hlist⟩ := List.append_of_mem hmem
  rw [hlist] at hnodup hbest
  obtain ⟨-, htail, hdisjoint⟩ := List.nodup_append.mp hnodup
  obtain ⟨hb, -⟩ := List.nodup_cons.mp htail
  have hlisted {j : LeaseNo} (hj : j ∈ as ++ b :: bs) (hy : v.leases[j].yields = true) : Candidate v g j :=
    (candidate_iff v g j).mpr ⟨hlist ▸ hj, hy⟩
  have hsearch : (v.groups[g].listeners.filter fun l => v.leases[l].yields) =
      as.filter (fun l => v.leases[l].yields) ++ b :: bs.filter fun l => v.leases[l].yields := by
    rw [hlist, List.filter_append, List.filter_cons_of_pos (p := fun l : LeaseNo => v.leases[l].yields) hyields]
  rw [Spec.victim_eq, hsearch]
  refine foldl_chosenVictim_eq (fun j hj => ?_) fun j hj => ?_
  · obtain ⟨hj, hy⟩ := List.mem_filter.mp hj
    exact (hbest j (hlisted (List.mem_append_left _ hj) hy)).1
  · obtain ⟨hj, hy⟩ := List.mem_filter.mp hj
    obtain ⟨hle, hlast⟩ := hbest j (hlisted (List.mem_append_right _ (List.mem_cons_of_mem b hj)) hy)
    refine lt_of_le_of_ne hle fun heq => ?_
    have hidx := hlast heq.symm
    have hbas : b ∉ as := fun hx => hdisjoint b hx b List.mem_cons_self rfl
    have hjas : j ∉ as := fun hx => hdisjoint j hx j (List.mem_cons_of_mem b hj) rfl
    have hjb : b ≠ j := fun hx => hb (hx ▸ hj)
    rw [List.idxOf_append_of_notMem hbas, List.idxOf_append_of_notMem hjas, List.idxOf_cons_self,
      List.idxOf_cons_ne _ hjb] at hidx
    omega

/-! ### The admission of a listener (R61, R103) -/

/-- The answer to a listener that joins after the operation `before`. -/
theorem listen_eq {before : TableOp} {m : Message} {p : PortNo} {reply : Reply} (sc : Option Scope) (fault : Bool)
    (n : LeaseNo) (h : ListenerAnswer before.lsv m reply) :
    ∃ (kind : ReplyKind) (sl : SlotNo), reply = answer m kind LeaseKind.listen.field sl ∧
      before.listen sc fault (claimed p m .listen) n =
        .made
          { lsv := (before.lsv.create sc fault .absent (claimed p m .listen) n).1
            out := before.out ++ (before.lsv.create sc fault .absent (claimed p m .listen) n).2
            tapEnded := before.tapEnded } kind sl := by
  obtain ⟨hnone, rfl⟩ | ⟨t, shown, ht, hslot, rfl⟩ := h
  · exact ⟨.wait, 0, rfl, if_pos hnone⟩
  · refine ⟨.grant, shown, rfl, (if_neg fun hnone => ?_).trans ?_⟩
    · rw [show before.lsv.groups[(claimed p m .listen).group].talker = some t from ht] at hnone
      cases hnone
    · have hshown : before.lsv.talkerSlot (claimed p m .listen).group = some shown := by
        show before.lsv.groups[m.group].talker.bind _ = _
        rw [ht, Option.bind_some, hslot]
      rw [hshown]
      rfl

theorem admitLease_listen {v : Lsv} (sc : Option Scope) (fault : Bool) (margin : Nat) (p : PortNo) (m : Message)
    (n : LeaseNo) :
    v.admitLease sc fault margin (claimed p m .listen) n = v.admitListener sc fault (claimed p m .listen) n := rfl

theorem admitListener_capless {v : Lsv} (sc : Option Scope) (fault : Bool) {r : Lease} (n : LeaseNo)
    (h : v.groups[r.group].listenerCap = 0) : v.admitListener sc fault r n = .refused .groupFull := if_pos h

theorem admitListener_room {v : Lsv} (sc : Option Scope) (fault : Bool) {r : Lease} (n : LeaseNo)
    (h : v.groups[r.group].listeners.length < v.groups[r.group].listenerCap) :
    v.admitListener sc fault r n = TableOp.listen (quiet v) sc fault r n :=
  (if_neg (by omega)).trans (if_pos h)

/-- At or above the cap with no victim of lower class. -/
theorem admitListener_full {v : Lsv} (sc : Option Scope) (fault : Bool) {r : Lease} (n : LeaseNo)
    (hcap : v.groups[r.group].listenerCap ≤ v.groups[r.group].listeners.length)
    (h : ∀ b, v.victim r.group = some b → r.cls ≤ v.leases[b].cls) : v.admitListener sc fault r n = .refused .groupFull := by
  by_cases hzero : v.groups[r.group].listenerCap = 0
  · exact admitListener_capless sc fault n hzero
  refine (if_neg hzero).trans ((if_neg (Nat.not_lt.mpr hcap)).trans ?_)
  cases hv : v.victim r.group with
  | none => rfl
  | some b => exact if_neg (Fin.not_lt.mpr (h b hv))

theorem admitListener_replaces {v : Lsv} (sc : Option Scope) (fault : Bool) {r : Lease} (n : LeaseNo) {b : LeaseNo}
    (hzero : 0 < v.groups[r.group].listenerCap)
    (hcap : v.groups[r.group].listenerCap ≤ v.groups[r.group].listeners.length) (hv : v.victim r.group = some b)
    (hcls : v.leases[b].cls < r.cls) :
    v.admitListener sc fault r n = (v.retire sc .preempted false b).listen sc fault r n := by
  refine (if_neg (by omega)).trans ((if_neg (Nat.not_lt.mpr hcap)).trans ?_)
  rw [hv]
  exact if_pos hcls

/-- The retirement of a listener leaves the answer to the next one as it was: the talker and its slot stay. -/
theorem ListenerAnswer.after_retire {v : Lsv} (hg : v.Grouped) {m : Message} {reply : Reply} (h : ListenerAnswer v m reply)
    (sc : Option Scope) (cause : RetireCause) {b : LeaseNo} (hb : b ∈ v.groups[m.group].listeners) :
    ListenerAnswer (v.retire sc cause false b).lsv m reply := by
  obtain ⟨-, hkind, hgroup⟩ := (hg.lists m.group b).mp hb
  have hquiet : departureList v.groups[v.leases[b].group] false v.leases[b].kind = [] :=
    departureList_quiet _ (.inl (by rw [hkind]; exact nofun))
  have htalker : (v.retire sc cause false b).lsv.groups[m.group].talker = v.groups[m.group].talker := by
    refine Option.ext fun j => (retire_talker v sc cause false b m.group j).trans (and_iff_left fun htalk => ?_)
    rw [hkind] at htalk
    cases htalk.1
  obtain ⟨hnone, rfl⟩ | ⟨t, shown, ht, hslot, rfl⟩ := h
  · exact .inl ⟨htalker.trans hnone, rfl⟩
  · obtain ⟨-, htalk, -⟩ := (hg.talker m.group t).mp ht
    have hne : t ≠ b := by
      rintro rfl
      rw [hkind] at htalk
      cases htalk
    refine .inr ⟨t, shown, htalker.trans ht, ?_, rfl⟩
    rw [retire_lease_untouched v sc cause false hne (by rw [hquiet]; exact List.not_mem_nil), hslot]

/-- Settles O40. -/
theorem claimJoinsListeners : Obligations.ClaimJoinsListeners := by
  rintro s p m n margin meter _ h hkind hm hl rfl hg
  have hlkind : kindOf m.lkind.val = some .listen := by rw [hl]; rfl
  refine ⟨fun hcap => ?capless, fun reply made hroom hanswer hmade => ?room,
    fun hzero hcap => ⟨fun hnone => ?full, fun b reply gone made hvictim hcls hanswer hgone hmade => ?replaces⟩⟩
  case capless => exact exec_claim_refused h hkind hm hlkind (admitListener_capless _ _ _ hcap)
  case room =>
    subst hmade
    obtain ⟨kind, sl, rfl, hlisten⟩ := listen_eq (before := quiet s.lsv) (p := p) s.cpt.walker.scope (faulty s p) n hanswer
    exact exec_claim_made h hkind hm hlkind ((admitListener_room _ _ _ hroom).trans hlisten)
  case full =>
    refine exec_claim_refused h hkind hm hlkind (admitListener_full _ _ _ hcap fun b hb => hnone b ?_)
    rw [Spec.victim_eq] at hb
    exact (candidate_iff _ _ _).mpr (List.mem_filter.mp (foldl_chosenVictim_mem hb))
  case replaces =>
    subst hgone hmade
    have hafter := hanswer.after_retire hg s.cpt.walker.scope .preempted hvictim.1.1
    obtain ⟨kind, sl, rfl, hlisten⟩ := listen_eq (p := p) s.cpt.walker.scope (faulty s p) n hafter
    exact exec_claim_made h hkind hm hlkind
      ((admitListener_replaces _ _ _ hzero hcap (hvictim.victim_eq (hg.once _)) hcls).trans hlisten)

end Sys2Proof.Spec
end

section
/-! PROOF. The sweep (chapter 8; R34, R121, R122): O47 to O49. -/

namespace Sys2Proof.Spec

open Sys2Proof.Machine

/-! ### Ticks -/

theorem faulty_iff (l : Lpi) : l.faulty = true ↔ l.condition = .faulted ∨ l.condition = .recovering := by
  rw [Lpi.faulty, Bool.or_eq_true, beq_iff_eq, beq_iff_eq]

theorem tickReady_iff (s : State) :
    s.tickReady = true ↔ 0 < s.swt.ticksDue ∧ s.pins.hold = false ∧ s.pins.reset = false := by
  rw [State.tickReady, Bool.and_eq_true, Bool.and_eq_true, decide_eq_true_iff, Bool.not_eq_true', Bool.not_eq_true',
    and_assoc]

theorem losesNext_iff (l : Lpi) :
    l.losesNext = true ↔ (l.condition = .faulted ∨ l.condition = .recovering) ∧ l.countdown = 1 := by
  rw [Lpi.losesNext, Bool.and_eq_true, faulty_iff, beq_iff_eq]

/-- A port takes a tick as the statements say (R121). -/
theorem tick_eq_ticked (l : Lpi) : l.tick = ticked l := by
  refine ite_congr (propext ?_) (fun _ => ?_) fun _ => rfl
  · rw [Bool.and_eq_true, faulty_iff, decide_eq_true_iff]
  · by_cases h : l.countdown = 1
    · rw [if_pos h, decide_eq_true h, Bool.or_true]
    · rw [if_neg h, decide_eq_false h, Bool.or_false]

theorem ticked_lost {x : Lpi} (hcondition : x.condition = .faulted ∨ x.condition = .recovering) (h : x.countdown = 1) :
    (ticked x).lost = true ∧ (ticked x).countdown = 0 := by
  have hticked : ticked x = { x with countdown := x.countdown - 1, lost := if x.countdown = 1 then true else x.lost } :=
    if_pos ⟨hcondition, by omega⟩
  rw [hticked]
  exact ⟨if_pos h, by rw [h]⟩

theorem tick_eq (s : State) :
    s.tick =
      afterTick s { s.swt.tick with ticksDue := s.swt.ticksDue - 1 }
        (if s.swt.losesTick = true then event 5 s.ntu else s.ntu) := by
  have hports : (tab 4 fun p => { s.ports[p] with lpi := s.ports[p].lpi.tick }) =
      tab 4 fun p => { s.ports[p] with lpi := ticked s.ports[p].lpi } :=
    congrArg (tab 4) (funext fun p => by rw [tick_eq_ticked])
  rw [State.tick, hports]
  cases s.swt.losesTick with
  | false => rfl
  | true => rfl

theorem tick_idle {s : State} (h : s.swt.sweep = .idle) :
    s.tick = afterTick s { s.swt with sweep := .qphase, request := true, ticksDue := s.swt.ticksDue - 1 } s.ntu := by
  have htick : s.swt.tick = { s.swt with sweep := .qphase, request := true } := if_pos h
  have hloses : s.swt.losesTick = false := by
    rw [Swt.losesTick, decide_eq_false fun hx => hx h, Bool.false_and]
  rw [tick_eq, htick, hloses, if_neg Bool.false_ne_true]

theorem tick_waits {s : State} (h : s.swt.sweep ≠ .idle) (hpending : s.swt.pendingTick = false) :
    s.tick = afterTick s { s.swt with pendingTick := true, ticksDue := s.swt.ticksDue - 1 } s.ntu := by
  have htick : s.swt.tick = { s.swt with pendingTick := true } :=
    (if_neg h).trans (if_neg (by rw [hpending]; exact Bool.false_ne_true))
  have hloses : s.swt.losesTick = false := by
    rw [Swt.losesTick, hpending, Bool.and_false]
  rw [tick_eq, htick, hloses, if_neg Bool.false_ne_true]

theorem tick_lost {s : State} (h : s.swt.sweep ≠ .idle) (hpending : s.swt.pendingTick = true) :
    s.tick =
      afterTick s { s.swt with overrun := min (s.swt.overrun + 1) 65535, ticksDue := s.swt.ticksDue - 1 }
        (event 5 s.ntu) := by
  have htick : s.swt.tick = { s.swt with overrun := saturate s.swt.overrun } := (if_neg h).trans (if_pos hpending)
  have hloses : s.swt.losesTick = true := by
    rw [Swt.losesTick, hpending, decide_eq_true h, Bool.and_true]
  rw [tick_eq, htick, hloses, if_pos rfl, saturate_eq]

theorem afterTick_lpi (s : State) (w : Swt) (n : Ntu) (p : PortNo) :
    (afterTick s w n).ports[p].lpi = ticked s.ports[p].lpi :=
  congrArg Port.lpi (tab_get _ p)

theorem tick_lpi (s : State) (p : PortNo) : s.tick.ports[p].lpi = ticked s.ports[p].lpi := by
  rw [tick_eq, afterTick_lpi]

theorem lostStep_of_not {p : PortNo} {s : State} (h : ¬ (s.tickReady = true ∧ s.ports[p].lpi.losesNext = true)) :
    lostStep p s = s :=
  if_neg fun hx => h (Bool.and_eq_true_iff.mp hx)

/-- Settles O47. -/
theorem sweepTickActs : Obligations.SweepTickActs := by
  refine ⟨fun s p h => ?notReady, fun s p h => congrArg Host.Outcome.next (lostStep_of_not fun hx => ?notLost),
    fun s t hreset hhold hdue ht => ?ready⟩
  case notReady =>
    have hready : ¬ s.tickReady = true := by
      rw [tickReady_iff]
      rintro ⟨hdue, hhold, -⟩
      obtain hx | hx := h
      · rw [hx] at hhold
        cases hhold
      · omega
    exact ⟨congrArg Host.Outcome.next (if_neg hready), congrArg Host.Outcome.next (lostStep_of_not fun hx => hready hx.1)⟩
  case notLost =>
    obtain ⟨hcondition, hcountdown⟩ := (losesNext_iff _).mp hx.2
    obtain hn | hp | hc := h
    · rw [hn] at hcondition
      exact hcondition.elim nofun nofun
    · rw [hp] at hcondition
      exact hcondition.elim nofun nofun
    · exact hc hcountdown
  case ready =>
    have hready : s.tickReady = true := (tickReady_iff s).mpr ⟨hdue, hhold, hreset⟩
    have htick : s.tick = t := by
      obtain ⟨hidle, rfl⟩ | ⟨hsweep, hpending, rfl⟩ | ⟨hsweep, hpending, rfl⟩ := ht
      · exact tick_idle hidle
      · exact tick_waits hsweep hpending
      · exact tick_lost hsweep hpending
    subst htick
    refine ⟨congrArg Host.Outcome.next (if_pos hready), fun p hcountdown hcondition => ⟨congrArg Host.Outcome.next ?_, ?_⟩⟩
    · exact if_pos (Bool.and_eq_true_iff.mpr ⟨hready, (losesNext_iff _).mpr ⟨hcondition, hcountdown⟩⟩)
    · rw [tick_lpi]
      exact ticked_lost hcondition hcountdown

/-! ### The quarantine phase -/

/-- The quarantine phase acts as the statements say where the guards of the listed slots are 1 or more (R33, R34). -/
theorem quarantinePhase_eq {v : Lsv} (h : ∀ sl ∈ v.quarantine, ∃ n, v.slots[sl].guard = some n ∧ 1 ≤ n) :
    v.quarantinePhase = phased v := by
  have hends {sl : SlotNo} (hsl : sl ∈ v.quarantine) :
      decide (v.slots[sl].guard.getD 0 ≤ 1) = (v.slots[sl].guard == some 1) := by
    obtain ⟨n, hn, hpos⟩ := h sl hsl
    rw [hn, Option.getD_some, Option.some_beq_some, Bool.eq_iff_iff, decide_eq_true_iff, beq_iff_eq]
    omega
  have hslots : v.quarantinePhase.slots = (phased v).slots := by
    refine congrArg (tab 128) (funext fun sl => ite_congr rfl (fun hsl => ite_congr (propext ?_) (fun _ => rfl)
      fun _ => rfl) fun _ => rfl)
    exact (Bool.eq_iff_iff.mp (hends hsl)).trans beq_iff_eq
  have hfree : v.quarantinePhase.freeList = (phased v).freeList :=
    congrArg (v.freeList ++ ·) (List.filter_congr fun sl hsl => hends hsl)
  have hquarantine : v.quarantinePhase.quarantine = (phased v).quarantine :=
    List.filter_congr fun sl hsl => congrArg (!·) (hends hsl)
  rw [show v.quarantinePhase = { v with
    slots := v.quarantinePhase.slots, freeList := v.quarantinePhase.freeList
    quarantine := v.quarantinePhase.quarantine } from rfl, hslots, hfree, hquarantine]
  rfl

/-- Settles O48. -/
theorem quarantinePhaseFreesSlots : Obligations.QuarantinePhaseFreesSlots := by
  intro s hreset hsweep hrequest hguards
  have hready : s.phaseReady = true := by
    rw [State.phaseReady, hreset, hrequest, hsweep]
    rfl
  have hphase : s.phase = { withTables s (phased s.lsv) with swt := { s.swt with sweep := .lphase 0, request := true } } := by
    rw [State.phase, quarantinePhase_eq hguards]
    rfl
  refine ⟨fun hhold => congrArg Host.Outcome.next ?taken, fun hhold => congrArg Host.Outcome.next ?lapses,
    fun sl hhold hsl hguard => congrArg Host.Outcome.next ?expiry⟩
  case taken => exact (if_pos hready).trans ((if_neg (by rw [hhold]; exact Bool.false_ne_true)).trans hphase)
  case lapses => exact (if_pos hready).trans (if_pos hhold)
  case expiry =>
    have hends : s.lsv.guardEnds sl = true := by
      rw [Lsv.guardEnds, decide_eq_true hsl, hguard]
      rfl
    refine (if_pos ?_).trans hphase
    rw [hready, hhold, hends]
    rfl

/-! ### Visits -/

theorem visitReady_eq {s : State} {l : LeaseNo} (hreset : s.pins.reset = false) (hsweep : s.swt.sweep = .lphase l)
    (hrequest : s.swt.request = true) : s.visitReady = some l := by
  rw [State.visitReady, hreset, hrequest, hsweep]
  rfl

/-- The sweep moves on as the statements say (R146, R147). -/
theorem afterVisit_eq {t : Swt} {l : LeaseNo} {x : Swt} (h : afterVisit t l x) : t.afterVisit l = x := by
  obtain ⟨hnext, hagain, hend⟩ := h
  by_cases hl : l.val < 127
  · exact (dif_pos hl).trans (hnext ⟨l.val + 1, by omega⟩ rfl).symm
  · have hlast : l.val = 127 := by omega
    refine (dif_neg hl).trans ?_
    by_cases hp : t.pendingTick = true
    · exact (if_pos hp).trans (hagain hlast hp).symm
    · exact (if_neg hp).trans (hend hlast (Bool.eq_false_of_not_eq_true hp)).symm

theorem visitOf_passes {s : State} {l : LeaseNo}
    (h : ¬ Live s.lsv.leases[l] ∨ s.lsv.leases[l].origin = .host ∨ s.lsv.leases[l].pinned = true) :
    s.visitOf l = .pass := by
  refine if_pos ?_
  rw [Bool.or_eq_true, Bool.not_eq_true', Bool.not_eq_true', live_eq_false_iff, ← Bool.not_eq_true (Lease.yields _),
    yields_iff]
  refine h.imp id ?_
  rintro (hhost | hpinned) ⟨hsignaled, hunpinned⟩
  · rw [hhost] at hsignaled
    cases hsignaled
  · rw [hpinned] at hunpinned
    cases hunpinned

/-- A visit to a lease that yields goes by its state (R148). -/
theorem visitOf_yields {s : State} {l : LeaseNo} (hlive : Live s.lsv.leases[l])
    (horigin : s.lsv.leases[l].origin = .signaled) (hpinned : s.lsv.leases[l].pinned = false) :
    s.visitOf l =
      if s.lsv.leases[l].state = .conditioned then
        (if s.ports[s.lsv.leases[l].port].lpi.lost = true then .loseLink else .pass)
      else if s.lsv.groups[s.lsv.leases[l].group].expiryLimit = 0 then .pass
      else if s.lsv.groups[s.lsv.leases[l].group].expiryLimit ≤ s.lsv.leases[l].idle + 1 then .expire
      else .age := by
  refine if_neg ?_
  rw [(live_iff _).mpr hlive, (yields_iff _).mpr ⟨horigin, hpinned⟩]
  exact Bool.false_ne_true

theorem visitLease_pass {s : State} {l : LeaseNo} (h : s.visitOf l = .pass) : s.visitLease l = s := by
  rw [State.visitLease, h]

theorem visitLease_age {s : State} {l : LeaseNo} (h : s.visitOf l = .age) :
    s.visitLease l = withLease s l { s.lsv.leases[l] with idle := s.lsv.leases[l].idle + 1 } := by
  rw [State.visitLease, h]
  rfl

theorem visitLease_expire {s : State} {l : LeaseNo} (h : s.visitOf l = .expire) :
    s.visitLease l = s.afterTables none ((s.lsv.aged l).retire s.scope .expired false l) := by
  rw [State.visitLease, h]

theorem visitLease_loseLink {s : State} {l : LeaseNo} (h : s.visitOf l = .loseLink) :
    s.visitLease l = s.afterTables none (s.lsv.retire s.scope .linkLost false l) := by
  rw [State.visitLease, h]

/-- A visit to a record that is passed over, CONDITIONED or ageing leaves what the statements say. -/
theorem visitLease_visited {s t : State} {l : LeaseNo} (h : Visited s t l) : s.visitLease l = t := by
  obtain ⟨hpass, hconditioned, hageing⟩ := h
  by_cases hskip : ¬ Live s.lsv.leases[l] ∨ s.lsv.leases[l].origin = .host ∨ s.lsv.leases[l].pinned = true
  · rw [visitLease_pass (visitOf_passes hskip), hpass hskip]
  obtain ⟨hlive, hhost, hpinned⟩ := not_or.mp hskip |>.imp not_not.mp not_or.mp
  have horigin : s.lsv.leases[l].origin = .signaled := by
    cases ho : s.lsv.leases[l].origin with
    | signaled => rfl
    | host => exact absurd ho hhost
  rw [Bool.not_eq_true] at hpinned
  have hvisit := visitOf_yields hlive horigin hpinned
  by_cases hstate : s.lsv.leases[l].state = .conditioned
  · obtain ⟨hkept, hlost⟩ := hconditioned hstate horigin hpinned
    rw [if_pos hstate] at hvisit
    by_cases hport : s.ports[s.lsv.leases[l].port].lpi.lost = true
    · rw [hlost hport, visitLease_loseLink (hvisit.trans (if_pos hport))]
      rfl
    · rw [hkept (Bool.eq_false_of_not_eq_true hport), visitLease_pass (hvisit.trans (if_neg hport))]
  · have hactive : s.lsv.leases[l].state = .active ∨ s.lsv.leases[l].state = .waiting := by
      obtain ha | hw | hc := hlive
      · exact .inl ha
      · exact .inr hw
      · exact absurd hc hstate
    obtain ⟨hunlimited, hages, hexpires⟩ := hageing hactive horigin hpinned
    rw [if_neg hstate] at hvisit
    by_cases hzero : s.lsv.groups[s.lsv.leases[l].group].expiryLimit = 0
    · rw [hunlimited hzero, visitLease_pass (hvisit.trans (if_pos hzero))]
    have hpos : 0 < s.lsv.groups[s.lsv.leases[l].group].expiryLimit := by omega
    rw [if_neg hzero] at hvisit
    by_cases hlimit : s.lsv.groups[s.lsv.leases[l].group].expiryLimit ≤ s.lsv.leases[l].idle + 1
    · rw [hexpires hpos hlimit, visitLease_expire (hvisit.trans (if_pos hlimit))]
      rfl
    · rw [hages hpos (by omega), visitLease_age (hvisit.trans (if_neg hlimit))]

theorem sweepVisitStep_at {s : State} {l : LeaseNo} (hready : s.visitReady = some l) :
    sweepVisitStep s = if s.pins.hold = true then s.lapse else s.sweepVisitAt l := by
  rw [sweepVisitStep, hready]

theorem leaseExpiryStep_expires {s : State} {l : LeaseNo} (hready : s.visitReady = some l) (hhold : s.pins.hold = false)
    (hvisit : s.visitOf l = .expire) : leaseExpiryStep s = s.sweepVisitAt l := by
  rw [leaseExpiryStep, hready]
  refine if_pos ?_
  rw [hhold, hvisit]
  rfl

/-- Settles O49. -/
theorem sweepVisitAgesLease : Obligations.SweepVisitAgesLease := by
  intro s l hreset hsweep hrequest
  have hready := visitReady_eq hreset hsweep hrequest
  refine ⟨fun hhold => congrArg Host.Outcome.next ?lapses, fun t w hhold hvisited hafter => ?visits⟩
  case lapses => exact (sweepVisitStep_at hready).trans (if_pos hhold)
  case visits =>
    have hat : s.sweepVisitAt l = { t with swt := w } := by
      rw [State.sweepVisitAt, visitLease_visited hvisited, afterVisit_eq hafter]
    refine ⟨congrArg Host.Outcome.next ?_, fun hlive hstate horigin hpinned hpos hlimit => congrArg Host.Outcome.next ?_⟩
    · exact (sweepVisitStep_at hready).trans ((if_neg (by rw [hhold]; exact Bool.false_ne_true)).trans hat)
    · refine (leaseExpiryStep_expires hready hhold ?_).trans hat
      rw [visitOf_yields hlive horigin hpinned, if_neg hstate, if_neg (Nat.ne_of_gt hpos), if_pos hlimit]

end Sys2Proof.Spec
end

section
/-! PROOF. The condition machine (R111, R115 to R120): O45, O46. -/

namespace Sys2Proof.Spec

open Sys2Proof.Machine

/-! ### The tables at the entry to FAULTED and at a recovery (R117, R120) -/

theorem mem_liveOnPort_iff (v : Lsv) (p : PortNo) (l : LeaseNo) :
    l ∈ v.liveOnPort p ↔ Live v.leases[l] ∧ v.leases[l].port = p := by
  rw [mem_liveOnPort, live_iff]

theorem onPort_eq (v : Lsv) (p : PortNo) : onPort v p = v.liveOnPort p := liveLeases_eq v _

/-- The state turns of the leases of a port, in the words of the statements. -/
theorem turnPort_eq (f : Lease → LeaseState) (k : Notice) (v : Lsv) (p : PortNo) :
    (v.liveOnPort p).foldl (changeLease f k) v =
      { v with
        leases := ((v.liveOnPort p).foldl (changeLease f k) v).leases, attention := joined v k (onPort v p) } := by
  have hattention := changeAll_attention f k (v.liveWhere_nodup _) (ls := v.liveOnPort p)
  rw [onPort_eq, joined_eq, ← hattention]
  exact changeAll_frame f k _ v

theorem turnPort_lease (f : Lease → LeaseState) (k : Notice) (v : Lsv) (p : PortNo) (l : LeaseNo) :
    ((v.liveOnPort p).foldl (changeLease f k) v).leases[l] =
      if Live v.leases[l] ∧ v.leases[l].port = p then noticed v k { v.leases[l] with state := f v.leases[l] }
      else v.leases[l] :=
  (changeAll_lease f k (v.liveWhere_nodup _) v l).trans
    (ite_congr (propext (mem_liveOnPort_iff v p l)) (fun _ => rfl) fun _ => rfl)

theorem restorePort_restored (v : Lsv) (p : PortNo) : Restored v (v.restorePort p) p :=
  ⟨turnPort_lease v.restoredState .restored v p, turnPort_eq v.restoredState .restored v p⟩

/-! ### Ports -/

theorem setLpi_lpi (s : State) (p : PortNo) (l : Lpi) : (s.setLpi p l).ports[p].lpi = l :=
  congrArg Port.lpi (upd_get_self ..)

theorem setLpi_setLpi (s : State) (p : PortNo) (l m : Lpi) : (s.setLpi p l).setLpi p m = withLpi s p m := by
  have hport : (s.setLpi p l).ports[p] = { s.ports[p] with lpi := l } := upd_get_self ..
  have hports : (s.setLpi p l).ports = upd s.ports p { s.ports[p] with lpi := l } := rfl
  rw [State.setLpi, State.setPort, hport, hports, upd_upd]
  rfl

theorem recover_eq (s : State) (p : PortNo) :
    s.recover p =
      { withLpi s p { s.ports[p].lpi with condition := .normal, recoveryTimer := none, countdown := 0, lost := false } with
        lsv := s.lsv.restorePort p, ntu := event 3 s.ntu } := by
  rw [State.recover, State.raise, raise_eq_event]
  rfl

theorem recover_setLpi (s : State) (p : PortNo) (l : Lpi) :
    (s.setLpi p l).recover p =
      { withLpi s p { l with condition := .normal, recoveryTimer := none, countdown := 0, lost := false } with
        lsv := s.lsv.restorePort p, ntu := event 3 s.ntu } := by
  rw [recover_eq, setLpi_lpi]
  exact congrArg (fun t : State => { t with lsv := s.lsv.restorePort p, ntu := event 3 s.ntu })
    (setLpi_setLpi s p l _)

/-! ### The events of the fault input (R116, R118 to R120) -/

theorem clearEvent_pending {s : State} {p : PortNo} (h : s.ports[p].lpi.condition = .pending) :
    s.clearEvent p = s.setLpi p { s.ports[p].lpi with condition := .normal, holdTimer := none } := by
  simp only [State.clearEvent, h]

theorem clearEvent_faulted {s : State} {p : PortNo} (h : s.ports[p].lpi.condition = .faulted)
    (htime : s.ports[p].lpi.recoveryTime ≠ 0) :
    s.clearEvent p =
      s.setLpi p
        { s.ports[p].lpi with
          condition := .recovering, recoveryTimer := some (8 * s.ports[p].lpi.recoveryTime), counting := false } := by
  simp only [State.clearEvent, h]
  exact if_neg htime

theorem clearEvent_recovers {s : State} {p : PortNo} (h : s.ports[p].lpi.condition = .faulted)
    (htime : s.ports[p].lpi.recoveryTime = 0) : s.clearEvent p = s.recover p := by
  simp only [State.clearEvent, h]
  exact if_pos htime

theorem clearEvent_clear {s : State} {p : PortNo}
    (h : s.ports[p].lpi.condition = .normal ∨ s.ports[p].lpi.condition = .recovering) : s.clearEvent p = s := by
  obtain h | h := h <;> simp only [State.clearEvent, h]

theorem faultEvent_normal {l : Lpi} (h : l.condition = .normal) :
    l.faultEvent = { l with condition := .pending, holdTimer := some (8 * l.faultHold), counting := false } := by
  rw [Lpi.faultEvent, h]
  rfl

theorem faultEvent_recovering {l : Lpi} (h : l.condition = .recovering) :
    l.faultEvent = { l with condition := .faulted, recoveryTimer := none } := by
  rw [Lpi.faultEvent, h]

theorem faultEvent_faulty {l : Lpi} (h : l.condition = .pending ∨ l.condition = .faulted) : l.faultEvent = l := by
  obtain h | h := h <;> rw [Lpi.faultEvent, h]

/-! ### The fault input (R115) -/

theorem faultInput_same {s : State} {p : PortNo} {level : Bool} (h : s.ports[p].lpi.faultIn = level) :
    s.faultInput p level = s :=
  if_pos h.symm

theorem faultInput_closed {s : State} {p : PortNo} {level : Bool} (h : s.ports[p].lpi.faultIn ≠ level)
    (hclosed : s.ports[p].lpi.admin = .closed) :
    s.faultInput p level = withLpi s p { s.ports[p].lpi with faultIn := level } := by
  refine (if_neg (Ne.symm h)).trans (if_pos ?_)
  rw [hclosed, Bool.or_eq_true]
  exact .inr rfl

theorem not_shut {s : State} {p : PortNo} (hreset : s.pins.reset = false) (hopen : s.ports[p].lpi.admin ≠ .closed) :
    ¬ (s.pins.reset || s.ports[p].lpi.admin == .closed) = true := by
  rw [hreset, Bool.false_or, beq_iff_eq]
  exact hopen

theorem faultInput_asserts {s : State} {p : PortNo} (hreset : s.pins.reset = false)
    (hopen : s.ports[p].lpi.admin ≠ .closed) (h : s.ports[p].lpi.faultIn = false) :
    s.faultInput p true = withLpi s p { s.ports[p].lpi with faultIn := true }.faultEvent := by
  refine (if_neg (by rw [h]; exact nofun)).trans ((if_neg (not_shut hreset hopen)).trans ((if_pos rfl).trans ?_))
  exact setLpi_setLpi ..

theorem faultInput_clears {s : State} {p : PortNo} (hreset : s.pins.reset = false)
    (hopen : s.ports[p].lpi.admin ≠ .closed) (h : s.ports[p].lpi.faultIn = true) :
    s.faultInput p false = (s.setLpi p { s.ports[p].lpi with faultIn := false }).clearEvent p :=
  (if_neg (by rw [h]; exact nofun)).trans ((if_neg (not_shut hreset hopen)).trans (if_neg Bool.false_ne_true))

theorem faultLevelStep_asserted {s : State} (hreset : s.pins.reset = false) (p : PortNo) :
    faultLevelStep p true s = s.faultInput p true := by
  refine if_pos ?_
  rw [State.canTakeLevel, hreset]
  rfl

theorem faultLevelStep_cleared {s : State} (hreset : s.pins.reset = false) {p : PortNo}
    (h : s.ports[p].lpi.expected ≠ none) : faultLevelStep p false s = s.faultInput p false := by
  refine if_pos ?_
  rw [State.canTakeLevel, hreset, Option.isSome_iff_ne_none.mpr h]
  rfl

theorem faultLevelStep_unplaced {s : State} {p : PortNo} (h : s.ports[p].lpi.expected = none) :
    faultLevelStep p false s = s := by
  refine if_neg ?_
  rw [State.canTakeLevel, h, Option.isSome_none, Bool.or_false, Bool.and_false]
  exact Bool.false_ne_true

theorem faultLevelStep_same {s : State} {p : PortNo} {level : Bool} (h : s.ports[p].lpi.faultIn = level) :
    faultLevelStep p level s = s := by
  rw [faultLevelStep, faultInput_same h, ite_self]

/-- Settles O45. -/
theorem faultEventsMoveCondition : Obligations.FaultEventsMoveCondition := by
  rintro s p x hreset rfl
  refine ⟨fun h => congrArg Host.Outcome.next (faultLevelStep_same h),
    fun h => congrArg Host.Outcome.next (faultLevelStep_same h),
    fun h => congrArg Host.Outcome.next (faultLevelStep_unplaced h), fun hlow => ⟨fun hclosed => ?assertedClosed,
      fun hopen => ?asserted⟩, fun hhigh hplaced => ⟨fun hclosed => ?clearedClosed, fun hopen => ?cleared⟩⟩
  case assertedClosed =>
    exact congrArg Host.Outcome.next
      ((faultLevelStep_asserted hreset p).trans (faultInput_closed (by rw [hlow]; exact nofun) hclosed))
  case asserted =>
    have hexec : exec (.faultAsserted p) s =
        .next (withLpi s p { s.ports[p].lpi with faultIn := true }.faultEvent) :=
      congrArg Host.Outcome.next ((faultLevelStep_asserted hreset p).trans (faultInput_asserts hreset hopen hlow))
    refine ⟨fun hn => ?_, fun hr => ?_, fun hf => ?_⟩
    · rw [hexec, faultEvent_normal (l := { s.ports[p].lpi with faultIn := true }) hn]
    · rw [hexec, faultEvent_recovering (l := { s.ports[p].lpi with faultIn := true }) hr]
    · rw [hexec, faultEvent_faulty (l := { s.ports[p].lpi with faultIn := true }) hf]
  case clearedClosed =>
    exact congrArg Host.Outcome.next
      ((faultLevelStep_cleared hreset hplaced).trans (faultInput_closed (by rw [hhigh]; exact nofun) hclosed))
  case cleared =>
    have hlpi := setLpi_lpi s p { s.ports[p].lpi with faultIn := false }
    have hexec : exec (.faultCleared p) s = .next ((s.setLpi p { s.ports[p].lpi with faultIn := false }).clearEvent p) :=
      congrArg Host.Outcome.next ((faultLevelStep_cleared hreset hplaced).trans (faultInput_clears hreset hopen hhigh))
    refine ⟨fun hp => ?_, fun hf htime => ?_, fun hf htime => ?_, fun hc => ?_⟩
    · rw [hexec, clearEvent_pending (by rw [hlpi]; exact hp), hlpi, setLpi_setLpi]
    · rw [hexec, clearEvent_faulted (by rw [hlpi]; exact hf) (by rw [hlpi]; exact htime), hlpi, setLpi_setLpi]
    · refine ⟨s.lsv.restorePort p, restorePort_restored s.lsv p, ?_⟩
      rw [hexec, clearEvent_recovers (by rw [hlpi]; exact hf) (by rw [hlpi]; exact htime), recover_setLpi]
    · rw [hexec, clearEvent_clear (by rw [hlpi]; exact hc)]
      rfl

/-! ### The expiries (R117, R120) -/

theorem enterFaulted_eq (s : State) (p : PortNo) :
    s.enterFaulted p =
      { withPort s p { s.ports[p] with
          lpi := { s.ports[p].lpi with
            condition := .faulted, holdTimer := none, countdown := s.ports[p].lpi.releaseTimeout }
          cch := { s.ports[p].cch with assembly := .hunt, bufA := none, bufB := none, queue := [], sent := 0 } } with
        lsv := s.lsv.conditionPort p, ntu := event 3 s.ntu } := by
  rw [State.enterFaulted, State.raise, raise_eq_event]
  rfl

theorem holdOut_iff (l : Lpi) : l.holdOut = true ↔ l.condition = .pending ∧ l.holdTimer = some 0 := by
  rw [Lpi.holdOut, Bool.and_eq_true, beq_iff_eq, beq_iff_eq]

theorem recoveryOut_iff (l : Lpi) : l.recoveryOut = true ↔ l.condition = .recovering ∧ l.recoveryTimer = some 0 := by
  rw [Lpi.recoveryOut, Bool.and_eq_true, beq_iff_eq, beq_iff_eq]

theorem holdExpiryStep_out {s : State} {p : PortNo} (hreset : s.pins.reset = false)
    (h : s.ports[p].lpi.holdOut = true) : holdExpiryStep p s = s.enterFaulted p := by
  refine if_pos ?_
  rw [hreset, h]
  rfl

theorem holdExpiryStep_running {s : State} {p : PortNo} (h : ¬ s.ports[p].lpi.holdOut = true) :
    holdExpiryStep p s = s :=
  if_neg fun hx => h (Bool.and_eq_true_iff.mp hx).2

theorem recoveryExpiryStep_out {s : State} {p : PortNo} (hreset : s.pins.reset = false)
    (h : s.ports[p].lpi.recoveryOut = true) : recoveryExpiryStep p s = s.recover p := by
  refine if_pos ?_
  rw [hreset, h]
  rfl

theorem recoveryExpiryStep_running {s : State} {p : PortNo} (h : ¬ s.ports[p].lpi.recoveryOut = true) :
    recoveryExpiryStep p s = s :=
  if_neg fun hx => h (Bool.and_eq_true_iff.mp hx).2

/-- Settles O46. -/
theorem expiriesConditionAndRestore : Obligations.ExpiriesConditionAndRestore := by
  rintro s p x hreset rfl
  refine ⟨fun hcondition htimer => ⟨s.lsv.conditionPort p, turnPort_lease (fun _ => .conditioned) .conditioned s.lsv p,
      turnPort_eq (fun _ => .conditioned) .conditioned s.lsv p, congrArg Host.Outcome.next ?hold⟩,
    fun hcondition htimer => ⟨s.lsv.restorePort p, restorePort_restored s.lsv p, congrArg Host.Outcome.next ?recovery⟩,
    fun htimer => congrArg Host.Outcome.next (holdExpiryStep_running fun hx => htimer ((holdOut_iff _).mp hx).2),
    fun htimer => congrArg Host.Outcome.next (recoveryExpiryStep_running fun hx => htimer ((recoveryOut_iff _).mp hx).2)⟩
  case hold => exact (holdExpiryStep_out hreset ((holdOut_iff _).mpr ⟨hcondition, htimer⟩)).trans (enterFaulted_eq s p)
  case recovery => exact (recoveryExpiryStep_out hreset ((recoveryOut_iff _).mpr ⟨hcondition, htimer⟩)).trans (recover_eq s p)

end Sys2Proof.Spec
end

section
/-! PROOF. The start of an internal frame and the refills (R34, R47, R95, R97, R114, R116, R118, R134 to R137, R140, R144):
O41, O43. -/

namespace Sys2Proof.Spec

open Sys2Proof.Machine

theorem frameStartStep_eq {s : State} (h : s.pins.reset = false) :
    frameStartStep s =
      { s with psw := s.framePsw, ports := tab 4 fun p => s.ports[p].countFrame, swt := s.frameSwt } :=
  if_neg (by rw [h]; exact Bool.false_ne_true)

/-! ### Counters (R95, R116, R118, R144) -/

theorem countTo_count (interval count : Nat) : (countTo interval count).1 = nextCount interval count := by
  unfold countTo nextCount
  split <;> rfl

theorem countTo_due (interval count due : Nat) : due + flag (countTo interval count).2 = nextDue interval count due := by
  unfold countTo nextDue
  split <;> rfl

theorem countCommitted_eq (m : Cmt) :
    m.countCommitted =
      { m with
        committedCount := nextCount m.ci m.committedCount
        committedDue := nextDue m.ci m.committedCount m.committedDue } := by
  rw [← countTo_count, ← countTo_due]
  rfl

/-- The excess counter stands still while EI is 0 (R95). -/
theorem countExcess_eq (m : Cmt) :
    m.countExcess =
      { m with
        excessCount := if m.ei = 0 then m.excessCount else nextCount m.ei m.excessCount
        excessDue := if m.ei = 0 then m.excessDue else nextDue m.ei m.excessCount m.excessDue } := by
  by_cases h : m.ei = 0
  · rw [if_pos h, if_pos h]
    exact if_pos h
  · rw [if_neg h, if_neg h, ← countTo_count, ← countTo_due]
    exact if_neg h

/-- One counted frame of the Sweep Timer that does not complete the prescaler. -/
theorem swtCountFrame_prescaling {t : Swt} (h : t.prescalerCount + 1 < t.prescaler) :
    t.countFrame = { t with prescalerCount := t.prescalerCount + 1 } := by
  have hcount : countTo t.prescaler t.prescalerCount = (t.prescalerCount + 1, false) := if_neg (Nat.not_le.mpr h)
  simp only [Swt.countFrame, hcount]
  rfl

/-- One counted frame of the Sweep Timer that completes the prescaler (R144). -/
theorem swtCountFrame_steps {t : Swt} (h : t.prescaler ≤ t.prescalerCount + 1) :
    t.countFrame =
      { t with
        prescalerCount := 0, counter := nextCount t.modulo t.counter
        ticksDue := nextDue t.modulo t.counter t.ticksDue } := by
  have hcount : countTo t.prescaler t.prescalerCount = (0, true) := if_pos h
  rw [← countTo_count, ← countTo_due]
  simp only [Swt.countFrame, hcount]
  rfl

theorem frameSwt_stands {s : State} (h : s.swt.running = false ∨ s.pins.hold = true) : s.frameSwt = s.swt := by
  refine if_neg ?_
  rw [Bool.and_eq_true, Bool.not_eq_true']
  rintro ⟨hrunning, hhold⟩
  obtain hx | hx := h
  · rw [hx] at hrunning
    cases hrunning
  · rw [hx] at hhold
    cases hhold

theorem frameSwt_counts {s : State} (hrunning : s.swt.running = true) (hhold : s.pins.hold = false) :
    s.frameSwt = s.swt.countFrame := by
  refine if_pos ?_
  rw [hrunning, hhold]
  rfl

theorem frameStartCounts : FrameStartCounts := by
  refine fun s hreset => ⟨_, congrArg Host.Outcome.next (frameStartStep_eq hreset), rfl, rfl, rfl, rfl, rfl, rfl,
    fun p => ?ports, frameSwt_stands, fun hrunning hhold h => ?prescaling, fun hrunning hhold h => ?steps⟩
  case ports =>
    refine (tab_get _ p).trans ?_
    rw [Port.countFrame, countExcess_eq, countCommitted_eq]
    rfl
  case prescaling => exact (frameSwt_counts hrunning hhold).trans (swtCountFrame_prescaling h)
  case steps => exact (frameSwt_counts hrunning hhold).trans (swtCountFrame_steps h)

/-! ### Refills (R95, R97) -/

theorem refillStep_eq {s : State} (h : s.pins.reset = false) (refill : Cmt → Cmt) (p : PortNo) :
    refillStep refill p s = withPort s p { s.ports[p] with cmt := refill s.ports[p].cmt } :=
  if_neg (by rw [h]; exact Bool.false_ne_true)

theorem refillStep_stays {s : State} {refill : Cmt → Cmt} {p : PortNo} (hreset : s.pins.reset = false)
    (h : refill s.ports[p].cmt = s.ports[p].cmt) : refillStep refill p s = s := by
  rw [refillStep_eq hreset, h]
  show { s with ports := upd s.ports p s.ports[p] } = s
  rw [upd_same]

theorem refillAddsToken : RefillAddsToken := by
  rintro s p m hreset rfl
  refine ⟨fun hdue => congrArg Host.Outcome.next ((refillStep_eq hreset _ p).trans ?committed),
    fun hdue => congrArg Host.Outcome.next ((refillStep_eq hreset _ p).trans ?excess),
    fun hdue => congrArg Host.Outcome.next (refillStep_stays hreset (if_neg (by omega))),
    fun hdue => congrArg Host.Outcome.next (refillStep_stays hreset (if_neg (by omega)))⟩
  case committed => rw [Cmt.refillCommitted, if_pos hdue]
  case excess => rw [Cmt.refillExcess, if_pos hdue]

/-- Settles O43. -/
theorem framesCountAndRefill : Obligations.FramesCountAndRefill := ⟨frameStartCounts, refillAddsToken⟩

/-! ### The content of the highway slots (R47, R134) -/

theorem framePsw_slotSel (s : State) (sl : SlotNo) : s.framePsw.slotSel[sl] = s.slotContent s.psw.shift sl := tab_get _ sl

theorem slotContent_unused {s : State} {sl : SlotNo}
    (h : s.lsv.slots[sl].state = .free ∨ s.lsv.slots[sl].state = .quarantine) (w : Psw) : s.slotContent w sl = none := by
  obtain h | h := h <;> rw [State.slotContent, h]

theorem slotContent_held {s : State} {sl : SlotNo} {l : LeaseNo} (h : s.lsv.slots[sl].state = .held)
    (hholder : s.lsv.slots[sl].holder = some l) (w : Psw) : s.slotContent w sl = s.holderContent w s.lsv.leases[l] := by
  rw [State.slotContent, h, hholder]
  rfl

theorem slotContent_reserved {s : State} {sl : SlotNo} (h : s.lsv.slots[sl].state = .reserved)
    (htap : ¬ TapTarget s.lsv sl) (w : Psw) : s.slotContent w sl = none := by
  rw [State.slotContent, h]
  exact if_neg (mt (tapTarget_iff s.lsv sl).mp htap)

theorem slotContent_tap {s : State} {sl : SlotNo} {l : LeaseNo} (h : s.lsv.slots[sl].state = .reserved)
    (htap : TapTarget s.lsv sl) (hsource : s.lsv.tap.source = some l) (w : Psw) :
    s.slotContent w sl = s.tapContent w s.lsv.leases[l] := by
  rw [State.slotContent, h, hsource]
  exact if_pos ((tapTarget_iff s.lsv sl).mpr htap)

theorem holderContent_active {r : Lease} (h : r.state = .active) (s : State) (w : Psw) :
    s.holderContent w r = some w.lineStore[r.port][r.channel] := by
  rw [State.holderContent, h]
  rfl

theorem holderContent_conditioned {r : Lease} (h : r.state = .conditioned) (s : State) (w : Psw) :
    s.holderContent w r = some (conditioningCode s r) := by
  rw [State.holderContent, h]
  rfl

theorem tapContent_sample {r : Lease} (h : r.state = .active ∨ r.state = .waiting) (s : State) (w : Psw) :
    s.tapContent w r = some w.lineStore[r.port][r.channel] := by
  obtain h | h := h <;> rw [State.tapContent, h] <;> rfl

theorem tapContent_conditioned {r : Lease} (h : r.state = .conditioned) (s : State) (w : Psw) :
    s.tapContent w r = some (conditioningCode s r) := by
  rw [State.tapContent, h]
  rfl

/-! ### What a line transmit channel carries (R137) -/

theorem channelSel_signalling {s : State} {p : PortNo} {c : ChanNo} (h : c = s.ports[p].lpi.format.signalling)
    (content : Vector (Option Byte) 128) : s.channelSel content p c = .signalling :=
  if_pos h

theorem channelSel_bound {s : State} {p : PortNo} {c : ChanNo} {l : LeaseNo}
    (hc : c ≠ s.ports[p].lpi.format.signalling) (h : s.lsv.chanMap[p][c] = some l)
    (content : Vector (Option Byte) 128) : s.channelSel content p c = s.boundSel content s.lsv.leases[l] := by
  have hentry : s.lsv.entry p c = some l := h
  rw [State.channelSel, if_neg hc, hentry]

theorem boundSel_duplex {r : Lease} {sl : SlotNo} (hkind : r.kind = .duplex) (hstate : r.state = .active)
    (hslot : r.slot = some sl) (s : State) (content : Vector (Option Byte) 128) :
    s.boundSel content r = .highwayIn sl (conditioningCode s r) := by
  simp only [State.boundSel, hkind, hstate, hslot]
  rfl

/-- A listener carries what is selected for its talker's slot. -/
theorem boundSel_listen {s : State} {r : Lease} {talker : LeaseNo} {sl : SlotNo} {b : Byte}
    {content : Vector (Option Byte) 128} (hkind : r.kind = .listen) (hstate : r.state = .active)
    (htalker : s.lsv.groups[r.group].talker = some talker) (hslot : s.lsv.leases[talker].slot = some sl)
    (hcontent : content[sl] = some b) : s.boundSel content r = .byte b := by
  have hcarried : ((s.lsv.talkerSlot r.group).bind fun sl => content[sl]) = some b := by
    rw [Lsv.talkerSlot, htalker, Option.bind_some, hslot, Option.bind_some, hcontent]
  simp only [State.boundSel, hkind, hstate, hcarried]

theorem boundSel_idle {r : Lease} (h : r.kind = .talk ∨ r.state = .waiting ∨ r.state = .conditioned) (s : State)
    (content : Vector (Option Byte) 128) : s.boundSel content r = .byte s.hwi.idleCode := by
  unfold State.boundSel
  dsimp only
  split
  · next hkind hstate =>
    rw [hkind, hstate] at h
    exact absurd h (by decide)
  · next hkind hstate =>
    rw [hkind, hstate] at h
    exact absurd h (by decide)
  · rfl

/-- Settles O41. -/
theorem frameStartSelects : Obligations.FrameStartSelects := by
  refine fun s hreset => ⟨_, congrArg Host.Outcome.next (frameStartStep_eq hreset), rfl, rfl, rfl, rfl, fun p => ?carried,
    fun sl => ?floated, rfl, rfl, rfl, fun p => tab_get _ p, fun sl => ⟨fun h => ?unused, fun l h hholder =>
      ⟨fun hstate => ?heldSample, fun hstate => ?heldCode⟩, fun h htap => ?reserved, fun l h htap hsource =>
      ⟨fun hstate => ?tapSample, fun hstate => ?tapCode⟩⟩, fun p c => ⟨fun hc => ?signalling, fun hc =>
      ⟨fun hnone => ?unbound, ?bound⟩⟩⟩
  case carried => exact Vector.getElem_replicate ..
  case floated => exact Vector.getElem_replicate ..
  case unused => exact (framePsw_slotSel s sl).trans (slotContent_unused h _)
  case heldSample =>
    exact (framePsw_slotSel s sl).trans ((slotContent_held h hholder _).trans (holderContent_active hstate s _))
  case heldCode =>
    exact (framePsw_slotSel s sl).trans ((slotContent_held h hholder _).trans (holderContent_conditioned hstate s _))
  case reserved => exact (framePsw_slotSel s sl).trans (slotContent_reserved h htap _)
  case tapSample =>
    exact (framePsw_slotSel s sl).trans ((slotContent_tap h htap hsource _).trans (tapContent_sample hstate s _))
  case tapCode =>
    exact (framePsw_slotSel s sl).trans ((slotContent_tap h htap hsource _).trans (tapContent_conditioned hstate s _))
  case signalling => exact (framePsw_lineSel s p c).trans (channelSel_signalling hc _)
  case unbound => exact (framePsw_lineSel s p c).trans ((channelSel_unbound hnone _).trans (if_neg hc))
  case bound =>
    rintro l r hbound rfl
    have hsel := (framePsw_lineSel s p c).trans (channelSel_bound hc hbound _)
    exact ⟨fun sl hkind hstate hslot => hsel.trans (boundSel_duplex hkind hstate hslot s _),
      fun talker sl b hkind hstate htalker hslot hcontent =>
        hsel.trans (boundSel_listen hkind hstate htalker hslot hcontent),
      fun h => hsel.trans (boundSel_idle h s _)⟩

end Sys2Proof.Spec
end

section
/-! PROOF. The highway (R130 to R136, R138, R141): O44. -/

namespace Sys2Proof.Spec

open Sys2Proof.Machine

/-! ### The alignment machine (R130, R131) -/

/-- What each position leaves of the HWI, and the realign counter at an entry to ALIGNED (R132). -/
def Positioned (h g : Hwi) : Prop :=
  g.offset = h.offset ∧ g.idleCode = h.idleCode ∧
    g.realign = (if h.alignment ≠ .aligned ∧ g.alignment = .aligned then min (h.realign + 1) 65535 else h.realign)

theorem Positioned.kept {h g : Hwi} (hoffset : g.offset = h.offset) (hidle : g.idleCode = h.idleCode)
    (hrealign : g.realign = h.realign) (hentry : g.alignment = .aligned → h.alignment = .aligned) : Positioned h g :=
  ⟨hoffset, hidle, hrealign.trans (if_neg fun hx => hx.1 (hentry hx.2)).symm⟩

/-- The HWI after a pulse at `t` that starts the confirmation over. -/
def restarted (h : Hwi) (t : BitTime) : Hwi :=
  { h with alignment := .confirm, expected := some t, confirmCount := 0, missCount := 0 }

theorem pulse_seek {h : Hwi} (hseek : h.alignment = .seek) (t : BitTime) : h.pulse t = restarted h t := by
  simp only [Hwi.pulse, hseek]
  rfl

theorem pulse_elsewhere {h : Hwi} {t : BitTime} (hseek : h.alignment ≠ .seek) (ht : h.expected ≠ some t) :
    h.pulse t = restarted h t := by
  cases ha : h.alignment with
  | seek => exact absurd ha hseek
  | confirm | aligned =>
    simp only [Hwi.pulse, ha]
    exact if_neg ht

theorem pulse_confirms {h : Hwi} {t : BitTime} (hconfirm : h.alignment = .confirm) (ht : h.expected = some t)
    (hcount : h.confirmCount = 0) : h.pulse t = { h with confirmCount := h.confirmCount + 1 } := by
  simp only [Hwi.pulse, hconfirm]
  exact (if_pos ht).trans (if_pos (by omega))

theorem pulse_completes {h : Hwi} {t : BitTime} (hconfirm : h.alignment = .confirm) (ht : h.expected = some t)
    (hcount : 1 ≤ h.confirmCount) :
    h.pulse t =
      { h with
        alignment := .aligned, confirmCount := h.confirmCount + 1, missCount := 0, realign := saturate h.realign } := by
  simp only [Hwi.pulse, hconfirm]
  exact (if_pos ht).trans (if_neg (by omega))

theorem pulse_onTime {h : Hwi} {t : BitTime} (haligned : h.alignment = .aligned) (ht : h.expected = some t) :
    h.pulse t = { h with missCount := 0 } := by
  simp only [Hwi.pulse, haligned]
  exact if_pos ht

theorem miss_seek {h : Hwi} (hseek : h.alignment = .seek) : h.miss = h := by
  simp only [Hwi.miss, hseek]

theorem miss_confirm {h : Hwi} (hconfirm : h.alignment = .confirm) :
    h.miss = { h with alignment := .seek, expected := none, confirmCount := 0 } := by
  simp only [Hwi.miss, hconfirm]

theorem miss_freewheels {h : Hwi} (haligned : h.alignment = .aligned) (hcount : h.missCount < 3) :
    h.miss = { h with missCount := h.missCount + 1 } := by
  simp only [Hwi.miss, haligned]
  exact if_pos hcount

theorem miss_loses {h : Hwi} (haligned : h.alignment = .aligned) (hcount : 3 ≤ h.missCount) :
    h.miss = { h with alignment := .seek, expected := none, missCount := 0 } := by
  simp only [Hwi.miss, haligned]
  exact if_neg (Nat.not_lt.mpr hcount)

theorem restarted_positioned (h : Hwi) (t : BitTime) : Positioned h (restarted h t) := .kept rfl rfl rfl nofun

theorem pulse_positioned (h : Hwi) (t : BitTime) : Positioned h (h.pulse t) := by
  by_cases hseek : h.alignment = .seek
  · rw [pulse_seek hseek]
    exact restarted_positioned h t
  by_cases ht : h.expected = some t
  · cases ha : h.alignment with
    | seek => exact absurd ha hseek
    | aligned =>
      rw [pulse_onTime ha ht]
      exact .kept rfl rfl rfl id
    | confirm =>
      by_cases hcount : h.confirmCount = 0
      · rw [pulse_confirms ha ht hcount]
        exact .kept rfl rfl rfl id
      · rw [pulse_completes ha ht (by omega)]
        refine ⟨rfl, rfl, (saturate_eq _).trans (if_pos ⟨?_, rfl⟩).symm⟩
        rw [ha]
        exact nofun
  · rw [pulse_elsewhere hseek ht]
    exact restarted_positioned h t

theorem miss_positioned (h : Hwi) : Positioned h h.miss := by
  cases ha : h.alignment with
  | seek =>
    rw [miss_seek ha]
    exact .kept rfl rfl rfl id
  | confirm =>
    rw [miss_confirm ha]
    exact .kept rfl rfl rfl nofun
  | aligned =>
    by_cases hcount : h.missCount < 3
    · rw [miss_freewheels ha hcount]
      exact .kept rfl rfl rfl id
    · rw [miss_loses ha (by omega)]
      exact .kept rfl rfl rfl nofun

/-! ### The rows of the highway frame pulse -/

theorem highwayPulseStep_eq {s : State} (h : s.pins.reset = false) (t : BitTime) (hwIn : Vector Byte 256) :
    highwayPulseStep t hwIn s = s.highwayEvent (s.hwi.pulse t) t hwIn :=
  if_neg (by rw [h]; exact Bool.false_ne_true)

theorem changesAligned_eq_false_iff (h g : Hwi) :
    h.changesAligned g = false ↔ (h.alignment = .aligned ↔ g.alignment = .aligned) := by
  rw [Hwi.changesAligned, bne_eq_false_iff_eq, decide_eq_decide]

/-- An event that leaves the HWI as it is and outside ALIGNED changes nothing. -/
theorem highwayEvent_self {s : State} (h : s.hwi.alignment ≠ .aligned) (start : BitTime) (hwIn : Vector Byte 256) :
    s.highwayEvent s.hwi start hwIn = s := by
  rw [State.highwayEvent_frame, State.highwayEvent_lost s h, (changesAligned_eq_false_iff _ _).mpr Iff.rfl,
    if_neg Bool.false_ne_true]

/-- A position that passes in SEEK leaves everything, like an event that leaves the HWI as it is. -/
theorem pulseMissingStep_eq {s : State} (h : s.pins.reset = false) (hwIn : Vector Byte 256) :
    pulseMissingStep hwIn s = s.highwayEvent s.hwi.miss (s.hwi.expected.getD 0) hwIn := by
  rw [pulseMissingStep, h, Bool.false_or]
  by_cases hseek : s.hwi.alignment = .seek
  · rw [miss_seek hseek, highwayEvent_self (by rw [hseek]; exact nofun)]
    exact if_pos (decide_eq_true hseek)
  · exact if_neg (by rw [decide_eq_true_iff]; exact hseek)

theorem highwayEvent_hwi (s : State) (h : Hwi) (start : BitTime) (hwIn : Vector Byte 256) :
    (s.highwayEvent h start hwIn).hwi = h := by
  rw [State.highwayEvent_frame]

/-- What an event of the alignment machine leaves (R132, R135, R136). -/
theorem highwayEvent_leaves {s : State} {h : Hwi} (hpos : Positioned s.hwi h) (start : BitTime) (hwIn : Vector Byte 256)
    {x : State} (hx : x = s.highwayEvent h start hwIn) :
    x.lsv = s.lsv ∧ x.ports = s.ports ∧ x.swt = s.swt ∧ x.cpt = s.cpt ∧ x.cpr = s.cpr ∧ x.pins = s.pins ∧
      x.psw.lineStore = s.psw.lineStore ∧ x.psw.lineRx = s.psw.lineRx ∧ x.psw.slotSel = s.psw.slotSel ∧
      x.psw.lineSel = s.psw.lineSel ∧ x.psw.carried = s.psw.carried ∧
      (x.hwi.alignment ≠ .aligned → x.psw = s.psw) ∧
      x.hwi.offset = s.hwi.offset ∧ x.hwi.idleCode = s.hwi.idleCode ∧
      x.hwi.realign = (if s.hwi.alignment ≠ .aligned ∧ x.hwi.alignment = .aligned
        then min (s.hwi.realign + 1) 65535 else s.hwi.realign) ∧
      x.ntu = (if (s.hwi.alignment = .aligned) ↔ (x.hwi.alignment = .aligned) then s.ntu else event 2 s.ntu) := by
  subst hx
  have hframe := State.highwayEvent_frame s h start hwIn
  have hpsw : (s.highwayEvent h start hwIn).psw = s.psw ∨
      (s.highwayEvent h start hwIn).psw = (s.beginHighwayFrame h start hwIn).psw := by
    by_cases ha : h.alignment = .aligned
    · exact .inr (State.highwayEvent_aligned s ha start hwIn)
    · exact .inl (State.highwayEvent_lost s ha start hwIn)
  have hkept {α : Type} (f : Psw → α) (hf : f (s.beginHighwayFrame h start hwIn).psw = f s.psw) :
      f (s.highwayEvent h start hwIn).psw = f s.psw := by
    obtain hp | hp := hpsw
    · rw [hp]
    · rw [hp, hf]
  have hntu : (s.highwayEvent h start hwIn).ntu =
      if (s.hwi.alignment = .aligned ↔ h.alignment = .aligned) then s.ntu else event 2 s.ntu := by
    by_cases hsame : s.hwi.alignment = .aligned ↔ h.alignment = .aligned
    · rw [hframe, (changesAligned_eq_false_iff _ _).mpr hsame, if_pos hsame, if_neg Bool.false_ne_true]
    · rw [hframe, if_neg hsame]
      exact (if_pos (Bool.eq_true_of_not_eq_false (mt (changesAligned_eq_false_iff _ _).mp hsame))).trans
        (raise_eq_event _ _)
  obtain ⟨hoffset, hidle, hrealign⟩ := hpos
  rw [highwayEvent_hwi]
  refine ⟨?_, ?_, ?_, ?_, ?_, ?_, hkept Psw.lineStore rfl, hkept Psw.lineRx rfl, hkept Psw.slotSel rfl,
    hkept Psw.lineSel rfl, hkept Psw.carried rfl, fun ha => State.highwayEvent_lost s ha start hwIn, hoffset, hidle,
    hrealign, hntu⟩ <;> rw [hframe]

theorem highwayPulsesAlign : HighwayPulsesAlign := by
  intro s at' hwIn hreset
  refine ⟨_, _, congrArg Host.Outcome.next (highwayPulseStep_eq hreset at' hwIn),
    congrArg Host.Outcome.next (pulseMissingStep_eq hreset hwIn), fun x hx => hx.elim
      (highwayEvent_leaves (pulse_positioned s.hwi at') at' hwIn) (highwayEvent_leaves (miss_positioned s.hwi) _ hwIn), ?_⟩
  rw [highwayEvent_hwi, highwayEvent_hwi]
  refine ⟨fun hseek => ?seek, fun hseek ht => ?elsewhere, fun hconfirm ht => ?confirm, fun haligned ht => ?onTime,
    fun hseek => ?missSeek, fun hconfirm => ?missConfirm, fun haligned hcount => ?freewheel, fun haligned hcount => ?lose⟩
  case seek =>
    rw [pulse_seek hseek]
    exact ⟨rfl, rfl, rfl⟩
  case elsewhere =>
    rw [pulse_elsewhere hseek ht]
    exact ⟨rfl, rfl, rfl, rfl⟩
  case confirm =>
    by_cases hcount : s.hwi.confirmCount = 0
    · rw [pulse_confirms hconfirm ht hcount]
      exact ⟨rfl, rfl, hconfirm.trans (if_neg (by omega)).symm⟩
    · rw [pulse_completes hconfirm ht (by omega)]
      exact ⟨rfl, rfl, (if_pos (by omega)).symm⟩
  case onTime =>
    rw [pulse_onTime haligned ht]
    exact ⟨haligned, rfl, rfl⟩
  case missSeek =>
    rw [miss_seek hseek]
    exact highwayEvent_self (by rw [hseek]; exact nofun) _ hwIn
  case missConfirm =>
    rw [miss_confirm hconfirm]
    exact ⟨rfl, rfl, rfl⟩
  case freewheel =>
    rw [miss_freewheels haligned hcount]
    exact ⟨haligned, rfl, rfl⟩
  case lose =>
    rw [miss_loses haligned hcount]
    exact ⟨rfl, rfl, rfl⟩

/-! ### An aligned highway frame begins (R131 to R133, R135, R136, R138, R141) -/

/-- The rows at which an aligned highway frame begins: the HWI is ALIGNED after them, with its offset. -/
theorem exec_begins {s : State} {row : Instr} {start : BitTime} {hwIn : Vector Byte 256} (hreset : s.pins.reset = false)
    (hexpected : s.hwi.expected = some start)
    (h : (row = .highwayPulse start hwIn ∧
        (s.hwi.alignment = .aligned ∨ (s.hwi.alignment = .confirm ∧ 1 ≤ s.hwi.confirmCount))) ∨
      (row = .pulseMissing hwIn ∧ s.hwi.alignment = .aligned ∧ s.hwi.missCount < 3)) :
    ∃ g : Hwi, exec row s = .next (s.highwayEvent g start hwIn) ∧ g.alignment = .aligned ∧ g.offset = s.hwi.offset := by
  obtain ⟨rfl, haligned⟩ | ⟨rfl, haligned, hcount⟩ := h
  · refine ⟨_, congrArg Host.Outcome.next (highwayPulseStep_eq hreset start hwIn), ?_,
      (pulse_positioned s.hwi start).1⟩
    obtain ha | ⟨hc, hcount⟩ := haligned
    · rw [pulse_onTime ha hexpected]
      exact ha
    · rw [pulse_completes hc hexpected hcount]
  · have hstep := pulseMissingStep_eq hreset hwIn
    rw [hexpected, Option.getD_some] at hstep
    refine ⟨_, congrArg Host.Outcome.next hstep, ?_, (miss_positioned s.hwi).1⟩
    rw [miss_freewheels haligned hcount]
    exact haligned

/-- Nothing is cut where no highway frame began in the frame before. -/
theorem cuts_none {w : Psw} (h : w.begunBefore = none) (offset : Fin 128) (sl : SlotNo) : w.cuts offset sl = false := by
  rw [Psw.cuts, h]

theorem cuts_iff {w : Psw} {f : HighwayFrame} (h : w.begunBefore = some f) (offset : Fin 128) (sl : SlotNo) :
    w.cuts offset sl = true ↔ 128 + offset.val ≤ f.offset.val + sl.val := by
  rw [Psw.cuts, h]
  exact f.cutBy_iff offset sl

theorem recodedTx_uncut {w : Psw} (h : w.begunBefore = none) (offset : Fin 128) : w.recodedTx offset = w.lineTx := by
  refine table_ext fun p => table_ext fun c => ?_
  rw [Psw.recodedTx_get, Psw.recoded_uncut w (cuts_none h offset), ite_self]

/-- A channel that takes no cut slot of a line frame carried keeps its byte. -/
theorem recodedTx_kept {w : Psw} {offset : Fin 128} {p : PortNo} {c : ChanNo}
    (h : w.carried[p] = false ∨
      ∀ (sl : SlotNo) (code : Byte), w.lineSel[p][c] = .highwayIn sl code → w.cuts offset sl = false) :
    (w.recodedTx offset)[p][c] = w.lineTx[p][c] := by
  rw [Psw.recodedTx_get]
  by_cases hcarried : w.carried[p] = true
  · refine (if_pos hcarried).trans ?_
    have huncut := h.resolve_left (by rw [hcarried]; exact nofun)
    cases hsel : w.lineSel[p][c] with
    | signalling => rfl
    | byte x => rfl
    | highwayIn sl code => exact if_neg (by rw [huncut sl code hsel]; exact Bool.false_ne_true)
  · exact if_neg hcarried

/-- A channel of a line frame carried that takes a cut slot sends its lease's conditioning code. -/
theorem recodedTx_cut {w : Psw} {offset : Fin 128} {p : PortNo} {c : ChanNo} {sl : SlotNo} {code : Byte}
    (hcarried : w.carried[p] = true) (hsel : w.lineSel[p][c] = .highwayIn sl code) (hcut : w.cuts offset sl = true) :
    (w.recodedTx offset)[p][c] = code := by
  rw [Psw.recodedTx_get, hsel]
  exact (if_pos hcarried).trans (if_pos hcut)

/-- The Payload Switch after the begin of an aligned highway frame with the offset in force. -/
def begins (s : State) (start : BitTime) (hwIn : Vector Byte 256) : Psw :=
  { s.psw with
    hwRx := tab 128 fun sl => some (sampleAt s.hwi.offset hwIn sl)
    hwStore := tab 128 fun sl => if s.psw.cuts s.hwi.offset sl then none else s.psw.hwStore[sl]
    lineTx := s.psw.recodedTx s.hwi.offset
    begun := some { start := start, offset := s.hwi.offset, content := s.psw.slotSel }
    begunBefore := s.psw.begunBefore.map (·.cut s.hwi.offset) }

theorem beginHighwayFrame_psw (s : State) {h : Hwi} (ho : h.offset = s.hwi.offset) (start : BitTime)
    (hwIn : Vector Byte 256) : (s.beginHighwayFrame h start hwIn).psw = begins s start hwIn := by
  rw [State.beginHighwayFrame, ho]
  rfl

theorem begins_hwStore (s : State) (start : BitTime) (hwIn : Vector Byte 256) (sl : SlotNo) :
    (begins s start hwIn).hwStore[sl] = if s.psw.cuts s.hwi.offset sl then none else s.psw.hwStore[sl] :=
  tab_get _ sl

theorem alignedFrameBegins : AlignedFrameBegins := by
  intro s row start hwIn hreset hexpected hrow
  obtain ⟨g, hexec, haligned, hoffset⟩ := exec_begins hreset hexpected hrow
  have hpsw : (s.highwayEvent g start hwIn).psw = begins s start hwIn :=
    (State.highwayEvent_aligned s haligned start hwIn).trans (beginHighwayFrame_psw s hoffset start hwIn)
  refine ⟨_, hexec, by rw [highwayEvent_hwi]; exact haligned, ?_⟩
  rw [hpsw]
  refine ⟨rfl, rfl, rfl, fun sl j hj => ?sample, fun hnone => ⟨?beforeNone, ?storeNone, recodedTx_uncut hnone _⟩,
    fun f hf => ⟨f.cut s.hwi.offset, ?before, rfl, rfl, fun sl => ⟨fun hcut => ?cut, fun hkept => ?kept⟩⟩,
    fun f p c hf => ⟨fun sl code hcarried hsel hcut => ?lineCut, fun h => ?lineKept⟩⟩
  case sample =>
    refine (tab_get _ sl).trans (congrArg some ?_)
    simp only [sampleAt, ← hj]
    rfl
  case beforeNone => exact congrArg (Option.map _) hnone
  case storeNone =>
    refine table_ext fun sl => (begins_hwStore s start hwIn sl).trans ?_
    exact if_neg (by rw [cuts_none hnone]; exact Bool.false_ne_true)
  case before => exact congrArg (Option.map _) hf
  case cut =>
    refine ⟨?_, (begins_hwStore s start hwIn sl).trans (if_pos ((cuts_iff hf _ sl).mpr hcut))⟩
    exact (f.cut_content s.hwi.offset sl).trans (if_pos ((f.cutBy_iff _ sl).mpr hcut))
  case kept =>
    have huncut : ¬ 128 + s.hwi.offset.val ≤ f.offset.val + sl.val := Nat.not_le.mpr hkept
    refine ⟨?_, (begins_hwStore s start hwIn sl).trans (if_neg (mt (cuts_iff hf _ sl).mp huncut))⟩
    exact (f.cut_content s.hwi.offset sl).trans (if_neg (mt (f.cutBy_iff _ sl).mp huncut))
  case lineCut => exact recodedTx_cut hcarried hsel ((cuts_iff hf _ sl).mpr hcut)
  case lineKept =>
    refine recodedTx_kept (h.imp_right fun hall sl code hsel => Bool.eq_false_of_not_eq_true fun hcut => ?_)
    have hle := (cuts_iff hf _ sl).mp hcut
    have hlt := hall sl code hsel
    omega

/-! ### Highway-out by bit time (R133, R135) -/

/-- What the aligned highway frame begun `age` internal frames ago drives at bit time `b`. -/
def driven (s : State) (age : Nat) (b : BitTime) : Option Byte := (frameAt s age).bind (·.drives age b)

theorem driven_eq_some_iff (s : State) (age : Nat) (b : BitTime) (x : Byte) :
    driven s age b = some x ↔
      ∃ (f : HighwayFrame) (sl : SlotNo), frameAt s age = some f ∧ Stands f age sl b ∧ f.content[sl] = some x := by
  rw [driven, Option.bind_eq_some_iff]
  refine exists_congr fun f => ?_
  rw [exists_and_left, HighwayFrame.drives_eq_some]
  rfl

theorem driven_eq_none {s : State} {age : Nat} {b : BitTime}
    (h : ∀ (f : HighwayFrame) (sl : SlotNo), frameAt s age = some f → Stands f age sl b → f.content[sl] = none) :
    driven s age b = none := by
  refine Option.eq_none_iff_forall_ne_some.mpr fun x hx => ?_
  obtain ⟨f, sl, hf, hstands, hcontent⟩ := (driven_eq_some_iff s age b x).mp hx
  rw [h f sl hf hstands] at hcontent
  cases hcontent

theorem highwayOut_eq {s : State} (h : s.pins.reset = false) (b : BitTime) :
    s.highwayOut b = ((driven s 0 b).or (driven s 1 b)).or (driven s 2 b) :=
  if_neg (by rw [h]; exact Bool.false_ne_true)

theorem highwayOut_reset {s : State} (h : s.pins.reset = true) (b : BitTime) : s.highwayOut b = none := if_pos h

/-- What is carried is driven by one of the three frames begun last. -/
theorem highwayOut_driven {s : State} {b : BitTime} {x : Byte} (h : s.highwayOut b = some x) :
    ∃ age, driven s age b = some x := by
  by_cases hreset : s.pins.reset = true
  · rw [highwayOut_reset hreset] at h
    cases h
  rw [highwayOut_eq (Bool.eq_false_of_not_eq_true hreset), Option.or_eq_some_iff, Option.or_eq_some_iff] at h
  obtain (h0 | ⟨-, h1⟩) | ⟨-, h2⟩ := h
  · exact ⟨0, h0⟩
  · exact ⟨1, h1⟩
  · exact ⟨2, h2⟩

/-- The youngest frame that drives the bit time is the one carried. -/
theorem highwayOut_youngest {s : State} {age : Nat} {b : BitTime} {x : Byte} (hreset : s.pins.reset = false)
    (h : driven s age b = some x) (hyounger : ∀ age' < age, driven s age' b = none) : s.highwayOut b = some x := by
  rw [highwayOut_eq hreset]
  match age with
  | 0 => rw [h, Option.some_or, Option.some_or]
  | 1 => rw [hyounger 0 (by omega), Option.none_or, h, Option.some_or]
  | 2 => rw [hyounger 0 (by omega), hyounger 1 (by omega), Option.none_or, Option.none_or, h]
  | _ + 3 => exact absurd h nofun

theorem highwayOutPlaced : HighwayOutPlaced := by
  refine fun s b => ⟨fun hreset => highwayOut_reset hreset b, fun x hx => ?_,
    fun age f sl x hreset hf hstands hcontent hyounger => ?_⟩
  · obtain ⟨age, hage⟩ := highwayOut_driven hx
    exact ⟨age, (driven_eq_some_iff s age b x).mp hage⟩
  · exact highwayOut_youngest hreset ((driven_eq_some_iff s age b x).mpr ⟨f, sl, hf, hstands, hcontent⟩)
      fun age' hlt => driven_eq_none fun f' sl' hf' hstands' => hyounger age' f' sl' hlt hf' hstands'

/-- Settles O44. -/
theorem highwayAlignsAndDrives : Obligations.HighwayAlignsAndDrives :=
  ⟨highwayPulsesAlign, alignedFrameBegins, highwayOutPlaced⟩

end Sys2Proof.Spec
end

section
/-! PROOF. Line frames (R71, R72, R74 to R77, R82, R91, R114, R115, R136, R137): O42. -/

namespace Sys2Proof.Spec

open Sys2Proof.Machine

/-! ### The transmitter (R72, R74, R82) -/

/-- A byte of a reply, in the words of the statements. -/
theorem replyByte_eq (r : Reply) (k : Fin 4) : replyByte r k = r.byte k := by
  have hv0 : (code [ReplyKind.grant, .wait, .refuse, .released, .status, .revoked] r.kind + 1) * 16 + r.tag.val =
      r.value 0 := by
    rw [code_replyKind]
    rfl
  have hcheck : (if (r.value 0 + r.value 1 + r.value 2) % 128 = 0 then 0
      else 128 - (r.value 0 + r.value 1 + r.value 2) % 128) = r.check := by
    unfold Reply.check
    split <;> omega
  match k with
  | 0 => exact congrArg (fun x => BitVec.ofNat 8 (128 + x)) hv0
  | 1 => rfl
  | 2 => rfl
  | 3 =>
    refine Eq.trans ?_ (congrArg (BitVec.ofNat 8) hcheck)
    rw [← hv0]
    rfl

theorem advance_empty {c : Cch} (h : c.queue = []) : c.advance = c := by
  simp only [Cch.advance, h]

theorem advance_inside {c : Cch} {r : Reply} {rest : List Reply} (h : c.queue = r :: rest) (hsent : c.sent ≠ 3) :
    c.advance = { c with sent := c.sent + 1 } := by
  simp only [Cch.advance, h, if_neg hsent]

theorem afterSending_silent {s : State} {p : PortNo} (h : ¬ Signals s p) : afterSending s p = s.ports[p].cch :=
  if_pos (not_not.mp fun hx => h (not_or.mp hx |>.imp id not_not.mp))

theorem afterSending_signalling {s : State} {p : PortNo} (h : Signals s p) :
    afterSending s p = s.ports[p].cch.advance := by
  obtain ⟨hopen, hformat⟩ := h
  refine (if_neg (not_or.mpr ⟨hopen, not_not.mpr hformat⟩)).trans ?_
  unfold Cch.advance
  rfl

theorem transmitted_eq (s : State) (p : PortNo) : s.transmitted p = withCch s p (afterSending s p) := by
  by_cases h : Signals s p
  · rw [transmitted_signalling h, afterSending_signalling h]
    rfl
  · rw [transmitted_closed (Bool.eq_false_of_not_eq_true (mt (signals_iff_signals s p).mp h)), afterSending_silent h]
    exact (State.setCch_self s p).symm

theorem advance_assembly (c : Cch) : c.advance.assembly = c.assembly := by
  cases hq : c.queue with
  | nil => rw [advance_empty hq]
  | cons r rest =>
    by_cases hsent : c.sent = 3
    · rw [advance_last hq hsent]
    · rw [advance_inside hq hsent]

theorem afterSending_assembly (s : State) (p : PortNo) : (afterSending s p).assembly = s.ports[p].cch.assembly := by
  by_cases h : Signals s p
  · rw [afterSending_signalling h, advance_assembly]
  · rw [afterSending_silent h]

/-! ### The byte received (R75 to R77) -/

theorem receiveByte_cch (s : State) (p : PortNo) (b : Byte) :
    (s.receiveByte p b).ports[p].cch =
      if s.assembles p = true then s.ports[p].cch.receive b else s.ports[p].cch := by
  unfold State.receiveByte
  split
  · exact congrArg Port.cch (upd_get_self ..)
  · rfl

theorem receiveByte_eq (s : State) (p : PortNo) (b : Byte) :
    s.receiveByte p b = withCch s p (s.receiveByte p b).ports[p].cch := by
  rw [receiveByte_cch]
  by_cases h : s.assembles p = true
  · rw [if_pos h]
    exact if_pos h
  · rw [if_neg h]
    exact (if_neg h).trans (State.setCch_self s p).symm

/-- A continuation byte in HUNT is passed over (R75). -/
theorem receiveByte_passedOver {s : State} {p : PortNo} {b : Byte} (hb : ¬ Marked b)
    (h : s.ports[p].cch.assembly = .hunt) : (s.receiveByte p b).ports[p].cch = s.ports[p].cch := by
  have hsame : s.ports[p].cch.receive b = s.ports[p].cch := by
    rw [receive_unmarked hb]
    simp only [Cch.continuation, h]
  rw [receiveByte_cch, hsame, ite_self]

theorem messageCompleteStep_cch {s : State} {p : PortNo} {b : Byte} (hb : ¬ Marked b)
    (hfull : s.ports[p].cch.assembly.full = true) :
    (messageCompleteStep p b s).ports[p].cch = (s.receiveByte p b).ports[p].cch := by
  by_cases h : s.assembles p = true
  · have hstep : messageCompleteStep p b s = (s.receiveByte p b).pollServing :=
      if_pos (by rw [(isHeader_eq_false_iff b).mpr hb, hfull, h]; rfl)
    rw [hstep, pollServing_eq_requesting]
    rfl
  · have hstep : messageCompleteStep p b s = s := if_neg fun hx => h (Bool.and_eq_true_iff.mp hx).2
    rw [hstep, receiveByte_cch, if_neg h]

/-- The row of a byte leaves the Claim Channel as the byte does. -/
theorem byteRow_cch {s u : State} {p : PortNo} {b : Byte} {row : Instr} (hrow : byteRow p b s.ports[p].cch.assembly row)
    (hu : exec row s = .next u) : u.ports[p].cch = (s.receiveByte p b).ports[p].cch := by
  obtain ⟨hb, ha, rfl⟩ | ⟨hb, ha, rfl⟩ | ⟨hb, ha, rfl⟩ | ⟨hb, ⟨b1, b2, b3, ha⟩, rfl⟩ := hrow
  · obtain rfl : headerInHuntStep p b s = u := Host.Outcome.next.inj hu
    rw [headerInHuntStep_taken hb ha]
  · obtain rfl : headerInGatherStep p b s = u := Host.Outcome.next.inj hu
    rw [headerInGatherStep_taken hb ha]
  · obtain rfl : continuationInGatherStep p b s = u := Host.Outcome.next.inj hu
    obtain ⟨b1, ha⟩ | ⟨b1, b2, ha⟩ := ha
    · rw [continuationInGatherStep_taken hb (by rw [ha]; exact nofun) (by rw [ha]; rfl)]
    · rw [continuationInGatherStep_taken hb (by rw [ha]; exact nofun) (by rw [ha]; rfl)]
  · obtain rfl : messageCompleteStep p b s = u := Host.Outcome.next.inj hu
    exact messageCompleteStep_cch hb (by rw [ha]; rfl)

/-! ### The fault input (R115) -/

/-- Two states agree in what the fault input of port `p` works on. -/
def FaultAlike (p : PortNo) (s t : State) : Prop :=
  t.ports[p].lpi = s.ports[p].lpi ∧ t.lsv = s.lsv ∧ t.ntu = s.ntu ∧ t.pins = s.pins

theorem FaultAlike.setLpi {p : PortNo} {s t : State} (h : FaultAlike p s t) (l : Lpi) :
    FaultAlike p (s.setLpi p l) (t.setLpi p l) := by
  obtain ⟨-, hlsv, hntu, hpins⟩ := h
  exact ⟨(setLpi_lpi t p l).trans (setLpi_lpi s p l).symm, hlsv, hntu, hpins⟩

theorem FaultAlike.recover {p : PortNo} {s t : State} (h : FaultAlike p s t) : FaultAlike p (s.recover p) (t.recover p) := by
  obtain ⟨hlpi, hlsv, hntu, hpins⟩ := h
  rw [recover_eq, recover_eq, hlpi, hlsv, hntu]
  exact ⟨(setLpi_lpi t p _).trans (setLpi_lpi s p _).symm, rfl, rfl, hpins⟩

theorem FaultAlike.clearEvent {p : PortNo} {s t : State} (h : FaultAlike p s t) :
    FaultAlike p (s.clearEvent p) (t.clearEvent p) := by
  have hlpi := h.1
  cases hc : s.ports[p].lpi.condition with
  | pending =>
    rw [clearEvent_pending hc, clearEvent_pending (by rw [hlpi, hc]), hlpi]
    exact h.setLpi _
  | faulted =>
    by_cases htime : s.ports[p].lpi.recoveryTime = 0
    · rw [clearEvent_recovers hc htime, clearEvent_recovers (by rw [hlpi, hc]) (by rw [hlpi, htime])]
      exact h.recover
    · rw [clearEvent_faulted hc htime, clearEvent_faulted (by rw [hlpi, hc]) (by rw [hlpi]; exact htime), hlpi]
      exact h.setLpi _
  | normal =>
    rw [clearEvent_clear (.inl hc), clearEvent_clear (.inl (by rw [hlpi, hc]))]
    exact h
  | recovering =>
    rw [clearEvent_clear (.inr hc), clearEvent_clear (.inr (by rw [hlpi, hc]))]
    exact h

theorem FaultAlike.faultInput {p : PortNo} {s t : State} (h : FaultAlike p s t) (level : Bool) :
    FaultAlike p (s.faultInput p level) (t.faultInput p level) := by
  have hlpi := h.1
  have hpins := h.2.2.2
  unfold State.faultInput
  dsimp only
  rw [hlpi, hpins]
  split
  · exact h
  · split
    · exact h.setLpi _
    · split
      · exact (h.setLpi _).setLpi _
      · exact (h.setLpi _).clearEvent

/-- The fault input of port `p` has taken a level: of its interface the condition side has moved, and with it the tables and
the Notice Unit. -/
def FaultTaken (p : PortNo) (level : Bool) (s t : State) : Prop :=
  ∃ (l : Lpi) (v : Lsv) (n : Ntu), l.faultIn = level ∧ l.expected = s.ports[p].lpi.expected ∧
    t = { withLpi s p l with lsv := v, ntu := n }

theorem FaultTaken.setLpi {p : PortNo} {level : Bool} {s : State} {l : Lpi} (hlevel : l.faultIn = level)
    (hexpected : l.expected = s.ports[p].lpi.expected) : FaultTaken p level s (s.setLpi p l) :=
  ⟨l, s.lsv, s.ntu, hlevel, hexpected, rfl⟩

theorem FaultTaken.refl {p : PortNo} {level : Bool} {s : State} (h : s.ports[p].lpi.faultIn = level) :
    FaultTaken p level s s := by
  refine ⟨s.ports[p].lpi, s.lsv, s.ntu, h, rfl, ?_⟩
  show s = { s with ports := upd s.ports p s.ports[p] }
  rw [upd_same]

theorem FaultTaken.clearEvent {p : PortNo} {level : Bool} {s : State} (h : s.ports[p].lpi.faultIn = level) :
    FaultTaken p level s (s.clearEvent p) := by
  unfold State.clearEvent
  dsimp only
  split
  · exact .setLpi h rfl
  · split
    · refine ⟨_, _, _, ?_, ?_, recover_eq s p⟩
      · exact h
      · rfl
    · exact .setLpi h rfl
  · exact .refl h
  · exact .refl h

/-- What follows the level in the interface does not show that the level came first. -/
theorem FaultTaken.after {p : PortNo} {level : Bool} {s t : State} {l : Lpi}
    (hexpected : l.expected = s.ports[p].lpi.expected) (h : FaultTaken p level (s.setLpi p l) t) :
    FaultTaken p level s t := by
  obtain ⟨m, v, n, hlevel, hm, rfl⟩ := h
  rw [setLpi_lpi] at hm
  exact ⟨m, v, n, hlevel, hm.trans hexpected,
    congrArg (fun u : State => { u with lsv := v, ntu := n }) (setLpi_setLpi s p l m)⟩

theorem faultEvent_faultIn (l : Lpi) : l.faultEvent.faultIn = l.faultIn ∧ l.faultEvent.expected = l.expected := by
  unfold Lpi.faultEvent
  split <;> exact ⟨rfl, rfl⟩

theorem faultInput_taken (s : State) (p : PortNo) (level : Bool) : FaultTaken p level s (s.faultInput p level) := by
  unfold State.faultInput
  dsimp only
  split
  · next h => exact .refl h.symm
  · split
    · exact .setLpi rfl rfl
    · split
      · obtain ⟨hlevel, hexpected⟩ := faultEvent_faultIn { s.ports[p].lpi with faultIn := level }
        exact .after (l := { s.ports[p].lpi with faultIn := level }) rfl
          (.setLpi hlevel (hexpected.trans (congrArg Lpi.expected (setLpi_lpi s p _)).symm))
      · exact .after (l := { s.ports[p].lpi with faultIn := level }) rfl
          (.clearEvent (congrArg Lpi.faultIn (setLpi_lpi s p _)))

/-- The rows of the fault input take the level. -/
theorem faultRow_input {s u : State} {p : PortNo} {level : Bool} {row : Instr} (hreset : s.pins.reset = false)
    (hrow : (level = true ∧ row = .faultAsserted p) ∨
      (level = false ∧ s.ports[p].lpi.expected ≠ none ∧ row = .faultCleared p))
    (hu : exec row s = .next u) : s.faultInput p level = u := by
  obtain ⟨rfl, rfl⟩ | ⟨rfl, hplaced, rfl⟩ := hrow
  · exact (faultLevelStep_asserted hreset p).symm.trans (Host.Outcome.next.inj hu)
  · exact (faultLevelStep_cleared hreset hplaced).symm.trans (Host.Outcome.next.inj hu)

/-! ### The line frame -/

/-- The Payload Switch after a line frame of port `p` with the samples `rx` (R136, R137). -/
def carriedPsw (s : State) (p : PortNo) (rx : Vector Byte 32) : Psw :=
  { s.psw with
    lineRx := upd s.psw.lineRx p rx, lineTx := upd s.psw.lineTx p (s.lineBytes p), carried := upd s.psw.carried p true }

/-- The Claim Channel after a line frame with signalling byte `b`, which it takes with `cch`. -/
def signalledCch (s : State) (p : PortNo) (cch : Bool) (b : Byte) : Cch :=
  if cch then ((withCch s p (afterSending s p)).receiveByte p b).ports[p].cch else afterSending s p

/-- The state in which a line frame's level meets the fault input: the pulse position has been taken. -/
def positioned (s : State) (p : PortNo) (position : Option Nat) : State :=
  withPort s p { s.ports[p] with lpi := { s.ports[p].lpi with expected := position } }

/-- Port `p` after a line frame with signalling byte `b` and the given level and pulse position. -/
def framedPort (s : State) (p : PortNo) (cch : Bool) (b : Byte) (level : Bool) (position : Option Nat) : Port :=
  { s.ports[p] with
    cch := signalledCch s p cch b, lpi := ((positioned s p position).faultInput p level).ports[p].lpi }

/-- The payload side and the Claim Channel of a line frame. -/
theorem carryLine_received (s : State) (p : PortNo) (rx : Vector Byte 32) (cch : Bool) (b : Byte) :
    (if cch then (s.carryLine p rx).receiveByte p b else s.carryLine p rx) =
      { withCch s p (signalledCch s p cch b) with psw := carriedPsw s p rx } := by
  have hcarry : s.carryLine p rx = { withCch s p (afterSending s p) with psw := carriedPsw s p rx } := by
    rw [State.carryLine, transmitted_eq]
    rfl
  rw [hcarry]
  cases cch with
  | false => rfl
  | true =>
    have hcch : (({ withCch s p (afterSending s p) with psw := carriedPsw s p rx }).receiveByte p b).ports[p].cch =
        signalledCch s p true b :=
      (receiveByte_cch _ p b).trans (receiveByte_cch (withCch s p (afterSending s p)) p b).symm
    refine (receiveByte_eq _ p b).trans ?_
    rw [hcch]
    have hport : (withCch s p (afterSending s p)).ports[p] = { s.ports[p] with cch := afterSending s p } :=
      upd_get_self ..
    have htwice : withCch (withCch s p (afterSending s p)) p (signalledCch s p true b) =
        withCch s p (signalledCch s p true b) := by
      rw [withCch, hport]
      show { s with ports := upd (upd s.ports p _) p _ } = _
      rw [upd_upd]
      rfl
    exact congrArg (fun t : State => { t with psw := carriedPsw s p rx }) htwice

/-- The fault side of a line frame, on a state whose port has its Claim Channel and its samples already. -/
theorem watchLine_eq (s : State) (p : PortNo) (c : Cch) (w : Psw) (alarm : Bool) (pulse : Option Nat) (level : Bool)
    (position : Option Nat) (hlevel : s.ports[p].lpi.lineFault alarm pulse = level)
    (hposition : pulse.or s.ports[p].lpi.expected = position) :
    ({ withCch s p c with psw := w }).watchLine p alarm pulse =
      { s with
        psw := w
        ports := upd s.ports p { s.ports[p] with
          cch := c, lpi := ((positioned s p position).faultInput p level).ports[p].lpi }
        lsv := ((positioned s p position).faultInput p level).lsv
        ntu := ((positioned s p position).faultInput p level).ntu } := by
  have hport : (withCch s p c).ports[p] = { s.ports[p] with cch := c } := upd_get_self ..
  have hwatch : ({ withCch s p c with psw := w }).watchLine p alarm pulse =
      (({ withCch s p c with psw := w }).setLpi p { s.ports[p].lpi with expected := position }).faultInput p level := by
    subst hlevel hposition
    unfold State.watchLine Lpi.expects
    dsimp only
    rw [hport]
  have halike : FaultAlike p (positioned s p position)
      (({ withCch s p c with psw := w }).setLpi p { s.ports[p].lpi with expected := position }) :=
    ⟨(setLpi_lpi _ p _).trans (setLpi_lpi s p _).symm, rfl, rfl, rfl⟩
  obtain ⟨hlpi, hlsv, hntu, -⟩ := halike.faultInput level
  obtain ⟨l, v, n, -, -, htaken⟩ := faultInput_taken
    (({ withCch s p c with psw := w }).setLpi p { s.ports[p].lpi with expected := position }) p level
  rw [hwatch, ← hlpi, ← hlsv, ← hntu, htaken]
  have hl : (withLpi (({ withCch s p c with psw := w }).setLpi p { s.ports[p].lpi with expected := position }) p l).ports[p].lpi
      = l := setLpi_lpi _ p l
  have hset : withLpi (({ withCch s p c with psw := w }).setLpi p { s.ports[p].lpi with expected := position }) p l =
      withLpi { withCch s p c with psw := w } p l := setLpi_setLpi _ p _ l
  show { withLpi _ p l with lsv := v, ntu := n } = { s with
    psw := w, ports := upd s.ports p { s.ports[p] with cch := c, lpi := (withLpi _ p l).ports[p].lpi }, lsv := v, ntu := n }
  rw [hl, hset]
  show { s with
    psw := w, ports := upd (upd s.ports p _) p { (withCch s p c).ports[p] with lpi := l }, lsv := v, ntu := n } = _
  rw [upd_upd, hport]

theorem lineFrameStep_eq {s : State} (hreset : s.pins.reset = false) (p : PortNo) (rx : Vector Byte 32) (alarm : Bool)
    (pulse : Option Nat) (cch : Bool) {level : Bool} {position : Option Nat}
    (hlevel : s.ports[p].lpi.lineFault alarm pulse = level) (hposition : pulse.or s.ports[p].lpi.expected = position) :
    lineFrameStep p rx alarm pulse cch s =
      requesting { s with
        psw := carriedPsw s p rx
        ports := upd s.ports p (framedPort s p cch rx[s.psw.formats[p].signalling] level position)
        lsv := ((positioned s p position).faultInput p level).lsv
        ntu := ((positioned s p position).faultInput p level).ntu } := by
  have hstep : lineFrameStep p rx alarm pulse cch s =
      ((if cch then (s.carryLine p rx).receiveByte p rx[s.psw.formats[p].signalling]
        else s.carryLine p rx).watchLine p alarm pulse).pollServing :=
    if_neg (by rw [hreset]; exact Bool.false_ne_true)
  rw [hstep, carryLine_received, watchLine_eq s p _ _ alarm pulse level position hlevel hposition,
    pollServing_eq_requesting]
  rfl

/-- The level of the fault input in a line frame, in the words of the statements (R115). -/
theorem lineFault_eq (l : Lpi) (alarm : Bool) (pulse : Option Nat) :
    l.lineFault alarm pulse = (alarm || pulse.isNone || decide (pulse ≠ l.expected)) :=
  congrArg (alarm || pulse.isNone || ·) (Bool.eq_iff_iff.mpr (bne_iff_ne.trans decide_eq_true_iff.symm))

/-- The input clears only at the expected position (R115). -/
theorem lineFault_clear {l : Lpi} {alarm : Bool} {pulse : Option Nat} (h : l.lineFault alarm pulse = false) :
    pulse.or l.expected ≠ none := by
  cases pulse with
  | none =>
    rw [Lpi.lineFault, Option.isNone_none, Bool.or_true, Bool.true_or] at h
    cases h
  | some x => exact nofun

/-- What each channel of a line frame sends (R72, R137, R138). -/
theorem sentByte_cases (s : State) (p : PortNo) (sel : LineSel) :
    (∀ x : Byte, sel = .byte x → s.sentByte p sel = x) ∧
    (∀ (sl : SlotNo) (code x : Byte), sel = .highwayIn sl code → s.psw.hwStore[sl] = some x → s.sentByte p sel = x) ∧
    (∀ (sl : SlotNo) (code : Byte), sel = .highwayIn sl code → s.psw.hwStore[sl] = none → s.sentByte p sel = code) ∧
    (sel = .signalling →
      (¬ Signals s p ∨ s.ports[p].cch.queue = [] → s.sentByte p sel = 0x00) ∧
      (∀ (r : Reply) (rest : List Reply), Signals s p → s.ports[p].cch.queue = r :: rest →
        s.sentByte p sel = replyByte r s.ports[p].cch.sent)) := by
  refine ⟨?byte, ?sample, ?code, ?signalling⟩
  case byte =>
    rintro x rfl
    rfl
  case sample =>
    rintro sl code x rfl hx
    exact congrArg (Option.getD · code) hx
  case code =>
    rintro sl code rfl hnone
    exact congrArg (Option.getD · code) hnone
  case signalling =>
    rintro rfl
    refine ⟨fun h => ?_, fun r rest hsignals hqueue => ?_⟩
    · by_cases hsignals : Signals s p
      · have hempty := h.resolve_left (not_not.mpr hsignals)
        refine (signallingByte_signalling hsignals).trans ?_
        simp only [Cch.txByte, hempty]
      · exact signallingByte_silent (Bool.eq_false_of_not_eq_true (mt (signals_iff_signals s p).mp hsignals))
    · rw [replyByte_eq]
      exact (signallingByte_signalling hsignals).trans (txByte_cons hqueue)

/-- Settles O42. -/
theorem lineFrameCarriesSamples : Obligations.LineFrameCarriesSamples := by
  intro s p rx alarm pulse cch b level position hreset hb hlevel hposition
  have hlevel' : s.ports[p].lpi.lineFault alarm pulse = level := (lineFault_eq _ _ _).trans hlevel.symm
  have hposition' : pulse.or s.ports[p].lpi.expected = position := by
    rw [hposition]
    cases pulse <;> rfl
  have hport : (upd s.ports p (framedPort s p cch rx[s.psw.formats[p].signalling] level position))[p] =
      framedPort s p cch rx[s.psw.formats[p].signalling] level position := upd_get_self ..
  have hpositioned : (positioned s p position).ports[p].lpi = { s.ports[p].lpi with expected := position } :=
    setLpi_lpi s p _
  have hwithCch : (withCch s p (afterSending s p)).ports[p].cch = afterSending s p := congrArg Port.cch (upd_get_self ..)
  obtain ⟨l, v, n, hl, hexpected, htaken⟩ := faultInput_taken (positioned s p position) p level
  have htakenLpi : ((positioned s p position).faultInput p level).ports[p].lpi = l := by
    rw [htaken]
    exact setLpi_lpi _ p l
  refine ⟨_, congrArg Host.Outcome.next (lineFrameStep_eq hreset p rx alarm pulse cch hlevel' hposition'), rfl, rfl, rfl,
    rfl, rfl, fun q hq => ⟨upd_get_other _ (Ne.symm hq) _, upd_get_other _ (Ne.symm hq) _⟩, (congrArg Port.cmt hport).trans rfl,
    fun c => ?channels, fun h => ?unsignalled, fun row u hcch hrow hu => ?signalled, rfl, ?level, ?position, fun h => ?same,
    fun row u hrow hu => ?row⟩
  case channels =>
    have hsent : (upd s.psw.lineTx p (s.lineBytes p))[p][c] = s.sentByte p s.psw.lineSel[p][c] := by
      rw [upd_get_self, lineBytes_get]
    rw [show (requesting _).psw.lineTx[p][c] = (upd s.psw.lineTx p (s.lineBytes p))[p][c] from rfl, hsent]
    exact sentByte_cases s p _
  case unsignalled =>
    refine (congrArg Port.cch hport).trans ?_
    obtain rfl | ⟨hunmarked, hhunt⟩ := h
    · rfl
    · have hpassed : ((withCch s p (afterSending s p)).receiveByte p b).ports[p].cch = afterSending s p :=
        (receiveByte_passedOver hunmarked (by rw [hwithCch, afterSending_assembly, hhunt])).trans hwithCch
      show signalledCch s p cch rx[s.psw.formats[p].signalling] = _
      rw [signalledCch, ← hb, hpassed, ite_self]
  case signalled =>
    refine (congrArg Port.cch hport).trans ?_
    rw [byteRow_cch (by rw [hwithCch, afterSending_assembly]; exact hrow) hu]
    show signalledCch s p cch rx[s.psw.formats[p].signalling] = _
    rw [signalledCch, ← hb, hcch, if_pos rfl]
  case level => exact (congrArg (·.lpi.faultIn) hport).trans ((congrArg Lpi.faultIn htakenLpi).trans hl)
  case position =>
    exact (congrArg (·.lpi.expected) hport).trans
      ((congrArg Lpi.expected htakenLpi).trans (hexpected.trans (congrArg Lpi.expected hpositioned)))
  case same =>
    have hsame : (positioned s p position).faultInput p level = positioned s p position :=
      faultInput_same ((congrArg Lpi.faultIn hpositioned).trans h)
    refine ⟨(congrArg Port.lpi hport).trans ?_, (congrArg State.lsv hsame).trans rfl,
      (congrArg State.ntu hsame).trans rfl⟩
    show ((positioned s p position).faultInput p level).ports[p].lpi = _
    rw [hsame, hpositioned]
  case row =>
    have hinput : (positioned s p position).faultInput p level = u := by
      refine faultRow_input (s := positioned s p position) hreset ?_ hu
      obtain ⟨-, hl, hr⟩ | ⟨-, hl, hr⟩ := hrow
      · exact .inl ⟨hl, hr⟩
      · refine .inr ⟨hl, ?_, hr⟩
        rw [hpositioned, ← hposition']
        exact lineFault_clear (hlevel'.trans hl)
    subst hinput
    exact ⟨(congrArg Port.lpi hport).trans rfl, rfl, rfl⟩

end Sys2Proof.Spec
end
